-- ==== Sys2Proof/Word.lean ====
section
/-! DEFINITION. The two widths of the block: a byte (registers, memory cells, immediates) and a
16-bit value (register pairs, SP, pc, addresses). Rule R5. -/

namespace Sys2Proof

/-- A byte: the width of the general registers, of a memory cell and of the bus (R5). -/
abbrev Byte := BitVec 8

/-- A 16-bit value: the width of SP, pc, a register pair and an address (R5). The spec never calls
8 bits a word (C7), nor does this model. -/
abbrev Word := BitVec 16

end Sys2Proof
end

