-- ==== Sys2Proof/WellFormed.lean ====
section
/-! DEFINITION. Which terms of `Instr` are complete instructions. Immediates are held at their own
width and every selector is an enumeration of exactly the legal values (R113), so the one check left
is that of the prefix. -/

namespace Sys2Proof

/-- An instruction is well formed when it is one whole instruction. The prefix 0xCB alone is not:
"the prefix and the second byte are one instruction" (R101), and the byte after it is always a
second opcode byte (R109). -/
def Instr.wellFormed (i : Instr) : Bool :=
  !(i == .prefix_CB)

end Sys2Proof
end

