-- ==== Sys2Proof/Decode.lean ====
section
/-! DEFINITION. The byte-order, sign-extension and bit-field helpers; decoding, by the dispatch rules
R101 to R107 (block, column, selector), with the index of each selector and the row of the table for
each form; and the encoder, from the opcode table's own bytes. The two are written from different
places of the spec, so that their agreement says something. -/

namespace Sys2Proof

/-! ### The index of each selector (R23, R24, R95, R99, R100, R104, R106) -/

/-- The index of R24: 0 B, 1 C, 2 D, 3 E, 4 H, 5 L, 7 A. -/
def Reg8.index : Reg8 → Nat
  | .b => 0 | .c => 1 | .d => 2 | .e => 3 | .h => 4 | .l => 5 | .a => 7

/-- The index of an 8-bit operand (R24, R93). -/
def Operand8.index : Operand8 → Nat
  | .reg r => r.index
  | .atHL => 6

/-- The index of R23. -/
def Rp.index : Rp → Nat
  | .bc => 0 | .de => 1 | .hl => 2 | .sp => 3

/-- The index of R23. -/
def Rp2.index : Rp2 → Nat
  | .bc => 0 | .de => 1 | .hl => 2 | .af => 3

/-- The index of R23. -/
def Indirect.index : Indirect → Nat
  | .bc => 0 | .de => 1 | .hlInc => 2 | .hlDec => 3

/-- The code of R95. -/
def Cond.index : Cond → Nat
  | .nz => 0 | .z => 1 | .nc => 2 | .c => 3

/-- The selector of R104. -/
def AluOp.index : AluOp → Nat
  | .add => 0 | .adc => 1 | .sub => 2 | .sbc => 3 | .and => 4 | .xor => 5 | .or => 6 | .cp => 7

/-- The selector of R106. -/
def RotOp.index : RotOp → Nat
  | .rlc => 0 | .rrc => 1 | .rl => 2 | .rr => 3 | .sla => 4 | .sra => 5 | .swap => 6 | .srl => 7

/-- The selector of R102, column 7. -/
def AccRot.index : AccRot → Nat
  | .rlca => 0 | .rrca => 1 | .rla => 2 | .rra => 3

/-- The number of the bit. -/
def BitIdx.index : BitIdx → Nat
  | .b0 => 0 | .b1 => 1 | .b2 => 2 | .b3 => 3 | .b4 => 4 | .b5 => 5 | .b6 => 6 | .b7 => 7

/-- The index `mid` of R99. -/
def RstVec.index : RstVec → Nat
  | .v00 => 0 | .v08 => 1 | .v10 => 2 | .v18 => 3 | .v20 => 4 | .v28 => 5 | .v30 => 6 | .v38 => 7

/-- The byte itself. -/
def UnusedByte.byte : UnusedByte → Byte
  | .xD3 => 0xD3 | .xDB => 0xDB | .xDD => 0xDD | .xE3 => 0xE3 | .xE4 => 0xE4 | .xEB => 0xEB
  | .xEC => 0xEC | .xED => 0xED | .xF4 => 0xF4 | .xFC => 0xFC | .xFD => 0xFD

/-! ### The rows of the table and their forms -/

/-- The form of each row of the table: the rule it names and its operands. -/
def Instr.form : Instr → Form
  | .nop => .nop
  | .ld_BC_nn nn => .ldRpImm .bc nn
  | .ld_atBC_A => .storeA .bc
  | .inc_BC => .incRp .bc
  | .inc_B => .inc (.reg .b)
  | .dec_B => .dec (.reg .b)
  | .ld_B_n n => .ldRegImm .b n
  | .rlca => .rotA .rlca
  | .ld_atnn_SP nn => .ldAbsSP nn
  | .add_HL_BC => .addHL .bc
  | .ld_A_atBC => .loadA .bc
  | .dec_BC => .decRp .bc
  | .inc_C => .inc (.reg .c)
  | .dec_C => .dec (.reg .c)
  | .ld_C_n n => .ldRegImm .c n
  | .rrca => .rotA .rrca
  | .stop => .stop
  | .ld_DE_nn nn => .ldRpImm .de nn
  | .ld_atDE_A => .storeA .de
  | .inc_DE => .incRp .de
  | .inc_D => .inc (.reg .d)
  | .dec_D => .dec (.reg .d)
  | .ld_D_n n => .ldRegImm .d n
  | .rla => .rotA .rla
  | .jr_e e => .jr e
  | .add_HL_DE => .addHL .de
  | .ld_A_atDE => .loadA .de
  | .dec_DE => .decRp .de
  | .inc_E => .inc (.reg .e)
  | .dec_E => .dec (.reg .e)
  | .ld_E_n n => .ldRegImm .e n
  | .rra => .rotA .rra
  | .jr_NZ_e e => .jrIf .nz e
  | .ld_HL_nn nn => .ldRpImm .hl nn
  | .ld_atHLinc_A => .storeA .hlInc
  | .inc_HL => .incRp .hl
  | .inc_H => .inc (.reg .h)
  | .dec_H => .dec (.reg .h)
  | .ld_H_n n => .ldRegImm .h n
  | .daa => .daa
  | .jr_Z_e e => .jrIf .z e
  | .add_HL_HL => .addHL .hl
  | .ld_A_atHLinc => .loadA .hlInc
  | .dec_HL => .decRp .hl
  | .inc_L => .inc (.reg .l)
  | .dec_L => .dec (.reg .l)
  | .ld_L_n n => .ldRegImm .l n
  | .cpl => .cpl
  | .jr_NC_e e => .jrIf .nc e
  | .ld_SP_nn nn => .ldRpImm .sp nn
  | .ld_atHLdec_A => .storeA .hlDec
  | .inc_SP => .incRp .sp
  | .inc_atHL => .inc .atHL
  | .dec_atHL => .dec .atHL
  | .ld_atHL_n n => .ldHLImm n
  | .scf => .scf
  | .jr_C_e e => .jrIf .c e
  | .add_HL_SP => .addHL .sp
  | .ld_A_atHLdec => .loadA .hlDec
  | .dec_SP => .decRp .sp
  | .inc_A => .inc (.reg .a)
  | .dec_A => .dec (.reg .a)
  | .ld_A_n n => .ldRegImm .a n
  | .ccf => .ccf
  | .ld_B_B => .ldRegReg .b .b
  | .ld_B_C => .ldRegReg .b .c
  | .ld_B_D => .ldRegReg .b .d
  | .ld_B_E => .ldRegReg .b .e
  | .ld_B_H => .ldRegReg .b .h
  | .ld_B_L => .ldRegReg .b .l
  | .ld_B_atHL => .ldRegHL .b
  | .ld_B_A => .ldRegReg .b .a
  | .ld_C_B => .ldRegReg .c .b
  | .ld_C_C => .ldRegReg .c .c
  | .ld_C_D => .ldRegReg .c .d
  | .ld_C_E => .ldRegReg .c .e
  | .ld_C_H => .ldRegReg .c .h
  | .ld_C_L => .ldRegReg .c .l
  | .ld_C_atHL => .ldRegHL .c
  | .ld_C_A => .ldRegReg .c .a
  | .ld_D_B => .ldRegReg .d .b
  | .ld_D_C => .ldRegReg .d .c
  | .ld_D_D => .ldRegReg .d .d
  | .ld_D_E => .ldRegReg .d .e
  | .ld_D_H => .ldRegReg .d .h
  | .ld_D_L => .ldRegReg .d .l
  | .ld_D_atHL => .ldRegHL .d
  | .ld_D_A => .ldRegReg .d .a
  | .ld_E_B => .ldRegReg .e .b
  | .ld_E_C => .ldRegReg .e .c
  | .ld_E_D => .ldRegReg .e .d
  | .ld_E_E => .ldRegReg .e .e
  | .ld_E_H => .ldRegReg .e .h
  | .ld_E_L => .ldRegReg .e .l
  | .ld_E_atHL => .ldRegHL .e
  | .ld_E_A => .ldRegReg .e .a
  | .ld_H_B => .ldRegReg .h .b
  | .ld_H_C => .ldRegReg .h .c
  | .ld_H_D => .ldRegReg .h .d
  | .ld_H_E => .ldRegReg .h .e
  | .ld_H_H => .ldRegReg .h .h
  | .ld_H_L => .ldRegReg .h .l
  | .ld_H_atHL => .ldRegHL .h
  | .ld_H_A => .ldRegReg .h .a
  | .ld_L_B => .ldRegReg .l .b
  | .ld_L_C => .ldRegReg .l .c
  | .ld_L_D => .ldRegReg .l .d
  | .ld_L_E => .ldRegReg .l .e
  | .ld_L_H => .ldRegReg .l .h
  | .ld_L_L => .ldRegReg .l .l
  | .ld_L_atHL => .ldRegHL .l
  | .ld_L_A => .ldRegReg .l .a
  | .ld_atHL_B => .ldHLReg .b
  | .ld_atHL_C => .ldHLReg .c
  | .ld_atHL_D => .ldHLReg .d
  | .ld_atHL_E => .ldHLReg .e
  | .ld_atHL_H => .ldHLReg .h
  | .ld_atHL_L => .ldHLReg .l
  | .halt => .halt
  | .ld_atHL_A => .ldHLReg .a
  | .ld_A_B => .ldRegReg .a .b
  | .ld_A_C => .ldRegReg .a .c
  | .ld_A_D => .ldRegReg .a .d
  | .ld_A_E => .ldRegReg .a .e
  | .ld_A_H => .ldRegReg .a .h
  | .ld_A_L => .ldRegReg .a .l
  | .ld_A_atHL => .ldRegHL .a
  | .ld_A_A => .ldRegReg .a .a
  | .add_A_B => .alu .add (.reg .b)
  | .add_A_C => .alu .add (.reg .c)
  | .add_A_D => .alu .add (.reg .d)
  | .add_A_E => .alu .add (.reg .e)
  | .add_A_H => .alu .add (.reg .h)
  | .add_A_L => .alu .add (.reg .l)
  | .add_A_atHL => .alu .add .atHL
  | .add_A_A => .alu .add (.reg .a)
  | .adc_A_B => .alu .adc (.reg .b)
  | .adc_A_C => .alu .adc (.reg .c)
  | .adc_A_D => .alu .adc (.reg .d)
  | .adc_A_E => .alu .adc (.reg .e)
  | .adc_A_H => .alu .adc (.reg .h)
  | .adc_A_L => .alu .adc (.reg .l)
  | .adc_A_atHL => .alu .adc .atHL
  | .adc_A_A => .alu .adc (.reg .a)
  | .sub_B => .alu .sub (.reg .b)
  | .sub_C => .alu .sub (.reg .c)
  | .sub_D => .alu .sub (.reg .d)
  | .sub_E => .alu .sub (.reg .e)
  | .sub_H => .alu .sub (.reg .h)
  | .sub_L => .alu .sub (.reg .l)
  | .sub_atHL => .alu .sub .atHL
  | .sub_A => .alu .sub (.reg .a)
  | .sbc_A_B => .alu .sbc (.reg .b)
  | .sbc_A_C => .alu .sbc (.reg .c)
  | .sbc_A_D => .alu .sbc (.reg .d)
  | .sbc_A_E => .alu .sbc (.reg .e)
  | .sbc_A_H => .alu .sbc (.reg .h)
  | .sbc_A_L => .alu .sbc (.reg .l)
  | .sbc_A_atHL => .alu .sbc .atHL
  | .sbc_A_A => .alu .sbc (.reg .a)
  | .and_B => .alu .and (.reg .b)
  | .and_C => .alu .and (.reg .c)
  | .and_D => .alu .and (.reg .d)
  | .and_E => .alu .and (.reg .e)
  | .and_H => .alu .and (.reg .h)
  | .and_L => .alu .and (.reg .l)
  | .and_atHL => .alu .and .atHL
  | .and_A => .alu .and (.reg .a)
  | .xor_B => .alu .xor (.reg .b)
  | .xor_C => .alu .xor (.reg .c)
  | .xor_D => .alu .xor (.reg .d)
  | .xor_E => .alu .xor (.reg .e)
  | .xor_H => .alu .xor (.reg .h)
  | .xor_L => .alu .xor (.reg .l)
  | .xor_atHL => .alu .xor .atHL
  | .xor_A => .alu .xor (.reg .a)
  | .or_B => .alu .or (.reg .b)
  | .or_C => .alu .or (.reg .c)
  | .or_D => .alu .or (.reg .d)
  | .or_E => .alu .or (.reg .e)
  | .or_H => .alu .or (.reg .h)
  | .or_L => .alu .or (.reg .l)
  | .or_atHL => .alu .or .atHL
  | .or_A => .alu .or (.reg .a)
  | .cp_B => .alu .cp (.reg .b)
  | .cp_C => .alu .cp (.reg .c)
  | .cp_D => .alu .cp (.reg .d)
  | .cp_E => .alu .cp (.reg .e)
  | .cp_H => .alu .cp (.reg .h)
  | .cp_L => .alu .cp (.reg .l)
  | .cp_atHL => .alu .cp .atHL
  | .cp_A => .alu .cp (.reg .a)
  | .ret_NZ => .retIf .nz
  | .pop_BC => .pop .bc
  | .jp_NZ_nn nn => .jpIf .nz nn
  | .jp_nn nn => .jp nn
  | .call_NZ_nn nn => .callIf .nz nn
  | .push_BC => .push .bc
  | .add_A_n n => .aluImm .add n
  | .rst_00 => .rst .v00
  | .ret_Z => .retIf .z
  | .ret => .ret
  | .jp_Z_nn nn => .jpIf .z nn
  | .prefix_CB => .prefixCB
  | .call_Z_nn nn => .callIf .z nn
  | .call_nn nn => .call nn
  | .adc_A_n n => .aluImm .adc n
  | .rst_08 => .rst .v08
  | .ret_NC => .retIf .nc
  | .pop_DE => .pop .de
  | .jp_NC_nn nn => .jpIf .nc nn
  | .illegal_D3 => .illegal .xD3
  | .call_NC_nn nn => .callIf .nc nn
  | .push_DE => .push .de
  | .sub_n n => .aluImm .sub n
  | .rst_10 => .rst .v10
  | .ret_C => .retIf .c
  | .reti => .reti
  | .jp_C_nn nn => .jpIf .c nn
  | .illegal_DB => .illegal .xDB
  | .call_C_nn nn => .callIf .c nn
  | .illegal_DD => .illegal .xDD
  | .sbc_A_n n => .aluImm .sbc n
  | .rst_18 => .rst .v18
  | .ldh_atn_A n => .ldhStore n
  | .pop_HL => .pop .hl
  | .ld_atC_A => .ldCStore
  | .illegal_E3 => .illegal .xE3
  | .illegal_E4 => .illegal .xE4
  | .push_HL => .push .hl
  | .and_n n => .aluImm .and n
  | .rst_20 => .rst .v20
  | .add_SP_e e => .addSP e
  | .jp_HL => .jpHL
  | .ld_atnn_A nn => .ldAbsStore nn
  | .illegal_EB => .illegal .xEB
  | .illegal_EC => .illegal .xEC
  | .illegal_ED => .illegal .xED
  | .xor_n n => .aluImm .xor n
  | .rst_28 => .rst .v28
  | .ldh_A_atn n => .ldhLoad n
  | .pop_AF => .pop .af
  | .ld_A_atC => .ldCLoad
  | .di => .di
  | .illegal_F4 => .illegal .xF4
  | .push_AF => .push .af
  | .or_n n => .aluImm .or n
  | .rst_30 => .rst .v30
  | .ld_HL_SPe e => .ldHLSP e
  | .ld_SP_HL => .ldSPHL
  | .ld_A_atnn nn => .ldAbsLoad nn
  | .ei => .ei
  | .illegal_FC => .illegal .xFC
  | .illegal_FD => .illegal .xFD
  | .cp_n n => .aluImm .cp n
  | .rst_38 => .rst .v38
  | .rlc_B => .rot .rlc (.reg .b)
  | .rlc_C => .rot .rlc (.reg .c)
  | .rlc_D => .rot .rlc (.reg .d)
  | .rlc_E => .rot .rlc (.reg .e)
  | .rlc_H => .rot .rlc (.reg .h)
  | .rlc_L => .rot .rlc (.reg .l)
  | .rlc_atHL => .rot .rlc .atHL
  | .rlc_A => .rot .rlc (.reg .a)
  | .rrc_B => .rot .rrc (.reg .b)
  | .rrc_C => .rot .rrc (.reg .c)
  | .rrc_D => .rot .rrc (.reg .d)
  | .rrc_E => .rot .rrc (.reg .e)
  | .rrc_H => .rot .rrc (.reg .h)
  | .rrc_L => .rot .rrc (.reg .l)
  | .rrc_atHL => .rot .rrc .atHL
  | .rrc_A => .rot .rrc (.reg .a)
  | .rl_B => .rot .rl (.reg .b)
  | .rl_C => .rot .rl (.reg .c)
  | .rl_D => .rot .rl (.reg .d)
  | .rl_E => .rot .rl (.reg .e)
  | .rl_H => .rot .rl (.reg .h)
  | .rl_L => .rot .rl (.reg .l)
  | .rl_atHL => .rot .rl .atHL
  | .rl_A => .rot .rl (.reg .a)
  | .rr_B => .rot .rr (.reg .b)
  | .rr_C => .rot .rr (.reg .c)
  | .rr_D => .rot .rr (.reg .d)
  | .rr_E => .rot .rr (.reg .e)
  | .rr_H => .rot .rr (.reg .h)
  | .rr_L => .rot .rr (.reg .l)
  | .rr_atHL => .rot .rr .atHL
  | .rr_A => .rot .rr (.reg .a)
  | .sla_B => .rot .sla (.reg .b)
  | .sla_C => .rot .sla (.reg .c)
  | .sla_D => .rot .sla (.reg .d)
  | .sla_E => .rot .sla (.reg .e)
  | .sla_H => .rot .sla (.reg .h)
  | .sla_L => .rot .sla (.reg .l)
  | .sla_atHL => .rot .sla .atHL
  | .sla_A => .rot .sla (.reg .a)
  | .sra_B => .rot .sra (.reg .b)
  | .sra_C => .rot .sra (.reg .c)
  | .sra_D => .rot .sra (.reg .d)
  | .sra_E => .rot .sra (.reg .e)
  | .sra_H => .rot .sra (.reg .h)
  | .sra_L => .rot .sra (.reg .l)
  | .sra_atHL => .rot .sra .atHL
  | .sra_A => .rot .sra (.reg .a)
  | .swap_B => .rot .swap (.reg .b)
  | .swap_C => .rot .swap (.reg .c)
  | .swap_D => .rot .swap (.reg .d)
  | .swap_E => .rot .swap (.reg .e)
  | .swap_H => .rot .swap (.reg .h)
  | .swap_L => .rot .swap (.reg .l)
  | .swap_atHL => .rot .swap .atHL
  | .swap_A => .rot .swap (.reg .a)
  | .srl_B => .rot .srl (.reg .b)
  | .srl_C => .rot .srl (.reg .c)
  | .srl_D => .rot .srl (.reg .d)
  | .srl_E => .rot .srl (.reg .e)
  | .srl_H => .rot .srl (.reg .h)
  | .srl_L => .rot .srl (.reg .l)
  | .srl_atHL => .rot .srl .atHL
  | .srl_A => .rot .srl (.reg .a)
  | .bit_0_B => .bit .b0 (.reg .b)
  | .bit_0_C => .bit .b0 (.reg .c)
  | .bit_0_D => .bit .b0 (.reg .d)
  | .bit_0_E => .bit .b0 (.reg .e)
  | .bit_0_H => .bit .b0 (.reg .h)
  | .bit_0_L => .bit .b0 (.reg .l)
  | .bit_0_atHL => .bit .b0 .atHL
  | .bit_0_A => .bit .b0 (.reg .a)
  | .bit_1_B => .bit .b1 (.reg .b)
  | .bit_1_C => .bit .b1 (.reg .c)
  | .bit_1_D => .bit .b1 (.reg .d)
  | .bit_1_E => .bit .b1 (.reg .e)
  | .bit_1_H => .bit .b1 (.reg .h)
  | .bit_1_L => .bit .b1 (.reg .l)
  | .bit_1_atHL => .bit .b1 .atHL
  | .bit_1_A => .bit .b1 (.reg .a)
  | .bit_2_B => .bit .b2 (.reg .b)
  | .bit_2_C => .bit .b2 (.reg .c)
  | .bit_2_D => .bit .b2 (.reg .d)
  | .bit_2_E => .bit .b2 (.reg .e)
  | .bit_2_H => .bit .b2 (.reg .h)
  | .bit_2_L => .bit .b2 (.reg .l)
  | .bit_2_atHL => .bit .b2 .atHL
  | .bit_2_A => .bit .b2 (.reg .a)
  | .bit_3_B => .bit .b3 (.reg .b)
  | .bit_3_C => .bit .b3 (.reg .c)
  | .bit_3_D => .bit .b3 (.reg .d)
  | .bit_3_E => .bit .b3 (.reg .e)
  | .bit_3_H => .bit .b3 (.reg .h)
  | .bit_3_L => .bit .b3 (.reg .l)
  | .bit_3_atHL => .bit .b3 .atHL
  | .bit_3_A => .bit .b3 (.reg .a)
  | .bit_4_B => .bit .b4 (.reg .b)
  | .bit_4_C => .bit .b4 (.reg .c)
  | .bit_4_D => .bit .b4 (.reg .d)
  | .bit_4_E => .bit .b4 (.reg .e)
  | .bit_4_H => .bit .b4 (.reg .h)
  | .bit_4_L => .bit .b4 (.reg .l)
  | .bit_4_atHL => .bit .b4 .atHL
  | .bit_4_A => .bit .b4 (.reg .a)
  | .bit_5_B => .bit .b5 (.reg .b)
  | .bit_5_C => .bit .b5 (.reg .c)
  | .bit_5_D => .bit .b5 (.reg .d)
  | .bit_5_E => .bit .b5 (.reg .e)
  | .bit_5_H => .bit .b5 (.reg .h)
  | .bit_5_L => .bit .b5 (.reg .l)
  | .bit_5_atHL => .bit .b5 .atHL
  | .bit_5_A => .bit .b5 (.reg .a)
  | .bit_6_B => .bit .b6 (.reg .b)
  | .bit_6_C => .bit .b6 (.reg .c)
  | .bit_6_D => .bit .b6 (.reg .d)
  | .bit_6_E => .bit .b6 (.reg .e)
  | .bit_6_H => .bit .b6 (.reg .h)
  | .bit_6_L => .bit .b6 (.reg .l)
  | .bit_6_atHL => .bit .b6 .atHL
  | .bit_6_A => .bit .b6 (.reg .a)
  | .bit_7_B => .bit .b7 (.reg .b)
  | .bit_7_C => .bit .b7 (.reg .c)
  | .bit_7_D => .bit .b7 (.reg .d)
  | .bit_7_E => .bit .b7 (.reg .e)
  | .bit_7_H => .bit .b7 (.reg .h)
  | .bit_7_L => .bit .b7 (.reg .l)
  | .bit_7_atHL => .bit .b7 .atHL
  | .bit_7_A => .bit .b7 (.reg .a)
  | .res_0_B => .res .b0 (.reg .b)
  | .res_0_C => .res .b0 (.reg .c)
  | .res_0_D => .res .b0 (.reg .d)
  | .res_0_E => .res .b0 (.reg .e)
  | .res_0_H => .res .b0 (.reg .h)
  | .res_0_L => .res .b0 (.reg .l)
  | .res_0_atHL => .res .b0 .atHL
  | .res_0_A => .res .b0 (.reg .a)
  | .res_1_B => .res .b1 (.reg .b)
  | .res_1_C => .res .b1 (.reg .c)
  | .res_1_D => .res .b1 (.reg .d)
  | .res_1_E => .res .b1 (.reg .e)
  | .res_1_H => .res .b1 (.reg .h)
  | .res_1_L => .res .b1 (.reg .l)
  | .res_1_atHL => .res .b1 .atHL
  | .res_1_A => .res .b1 (.reg .a)
  | .res_2_B => .res .b2 (.reg .b)
  | .res_2_C => .res .b2 (.reg .c)
  | .res_2_D => .res .b2 (.reg .d)
  | .res_2_E => .res .b2 (.reg .e)
  | .res_2_H => .res .b2 (.reg .h)
  | .res_2_L => .res .b2 (.reg .l)
  | .res_2_atHL => .res .b2 .atHL
  | .res_2_A => .res .b2 (.reg .a)
  | .res_3_B => .res .b3 (.reg .b)
  | .res_3_C => .res .b3 (.reg .c)
  | .res_3_D => .res .b3 (.reg .d)
  | .res_3_E => .res .b3 (.reg .e)
  | .res_3_H => .res .b3 (.reg .h)
  | .res_3_L => .res .b3 (.reg .l)
  | .res_3_atHL => .res .b3 .atHL
  | .res_3_A => .res .b3 (.reg .a)
  | .res_4_B => .res .b4 (.reg .b)
  | .res_4_C => .res .b4 (.reg .c)
  | .res_4_D => .res .b4 (.reg .d)
  | .res_4_E => .res .b4 (.reg .e)
  | .res_4_H => .res .b4 (.reg .h)
  | .res_4_L => .res .b4 (.reg .l)
  | .res_4_atHL => .res .b4 .atHL
  | .res_4_A => .res .b4 (.reg .a)
  | .res_5_B => .res .b5 (.reg .b)
  | .res_5_C => .res .b5 (.reg .c)
  | .res_5_D => .res .b5 (.reg .d)
  | .res_5_E => .res .b5 (.reg .e)
  | .res_5_H => .res .b5 (.reg .h)
  | .res_5_L => .res .b5 (.reg .l)
  | .res_5_atHL => .res .b5 .atHL
  | .res_5_A => .res .b5 (.reg .a)
  | .res_6_B => .res .b6 (.reg .b)
  | .res_6_C => .res .b6 (.reg .c)
  | .res_6_D => .res .b6 (.reg .d)
  | .res_6_E => .res .b6 (.reg .e)
  | .res_6_H => .res .b6 (.reg .h)
  | .res_6_L => .res .b6 (.reg .l)
  | .res_6_atHL => .res .b6 .atHL
  | .res_6_A => .res .b6 (.reg .a)
  | .res_7_B => .res .b7 (.reg .b)
  | .res_7_C => .res .b7 (.reg .c)
  | .res_7_D => .res .b7 (.reg .d)
  | .res_7_E => .res .b7 (.reg .e)
  | .res_7_H => .res .b7 (.reg .h)
  | .res_7_L => .res .b7 (.reg .l)
  | .res_7_atHL => .res .b7 .atHL
  | .res_7_A => .res .b7 (.reg .a)
  | .set_0_B => .set .b0 (.reg .b)
  | .set_0_C => .set .b0 (.reg .c)
  | .set_0_D => .set .b0 (.reg .d)
  | .set_0_E => .set .b0 (.reg .e)
  | .set_0_H => .set .b0 (.reg .h)
  | .set_0_L => .set .b0 (.reg .l)
  | .set_0_atHL => .set .b0 .atHL
  | .set_0_A => .set .b0 (.reg .a)
  | .set_1_B => .set .b1 (.reg .b)
  | .set_1_C => .set .b1 (.reg .c)
  | .set_1_D => .set .b1 (.reg .d)
  | .set_1_E => .set .b1 (.reg .e)
  | .set_1_H => .set .b1 (.reg .h)
  | .set_1_L => .set .b1 (.reg .l)
  | .set_1_atHL => .set .b1 .atHL
  | .set_1_A => .set .b1 (.reg .a)
  | .set_2_B => .set .b2 (.reg .b)
  | .set_2_C => .set .b2 (.reg .c)
  | .set_2_D => .set .b2 (.reg .d)
  | .set_2_E => .set .b2 (.reg .e)
  | .set_2_H => .set .b2 (.reg .h)
  | .set_2_L => .set .b2 (.reg .l)
  | .set_2_atHL => .set .b2 .atHL
  | .set_2_A => .set .b2 (.reg .a)
  | .set_3_B => .set .b3 (.reg .b)
  | .set_3_C => .set .b3 (.reg .c)
  | .set_3_D => .set .b3 (.reg .d)
  | .set_3_E => .set .b3 (.reg .e)
  | .set_3_H => .set .b3 (.reg .h)
  | .set_3_L => .set .b3 (.reg .l)
  | .set_3_atHL => .set .b3 .atHL
  | .set_3_A => .set .b3 (.reg .a)
  | .set_4_B => .set .b4 (.reg .b)
  | .set_4_C => .set .b4 (.reg .c)
  | .set_4_D => .set .b4 (.reg .d)
  | .set_4_E => .set .b4 (.reg .e)
  | .set_4_H => .set .b4 (.reg .h)
  | .set_4_L => .set .b4 (.reg .l)
  | .set_4_atHL => .set .b4 .atHL
  | .set_4_A => .set .b4 (.reg .a)
  | .set_5_B => .set .b5 (.reg .b)
  | .set_5_C => .set .b5 (.reg .c)
  | .set_5_D => .set .b5 (.reg .d)
  | .set_5_E => .set .b5 (.reg .e)
  | .set_5_H => .set .b5 (.reg .h)
  | .set_5_L => .set .b5 (.reg .l)
  | .set_5_atHL => .set .b5 .atHL
  | .set_5_A => .set .b5 (.reg .a)
  | .set_6_B => .set .b6 (.reg .b)
  | .set_6_C => .set .b6 (.reg .c)
  | .set_6_D => .set .b6 (.reg .d)
  | .set_6_E => .set .b6 (.reg .e)
  | .set_6_H => .set .b6 (.reg .h)
  | .set_6_L => .set .b6 (.reg .l)
  | .set_6_atHL => .set .b6 .atHL
  | .set_6_A => .set .b6 (.reg .a)
  | .set_7_B => .set .b7 (.reg .b)
  | .set_7_C => .set .b7 (.reg .c)
  | .set_7_D => .set .b7 (.reg .d)
  | .set_7_E => .set .b7 (.reg .e)
  | .set_7_H => .set .b7 (.reg .h)
  | .set_7_L => .set .b7 (.reg .l)
  | .set_7_atHL => .set .b7 .atHL
  | .set_7_A => .set .b7 (.reg .a)

/-- The rows `LD r,r'` (R103). -/
def Form.ldRegRegInstr : Reg8 → Reg8 → Instr
  | .b, .b => .ld_B_B
  | .b, .c => .ld_B_C
  | .b, .d => .ld_B_D
  | .b, .e => .ld_B_E
  | .b, .h => .ld_B_H
  | .b, .l => .ld_B_L
  | .b, .a => .ld_B_A
  | .c, .b => .ld_C_B
  | .c, .c => .ld_C_C
  | .c, .d => .ld_C_D
  | .c, .e => .ld_C_E
  | .c, .h => .ld_C_H
  | .c, .l => .ld_C_L
  | .c, .a => .ld_C_A
  | .d, .b => .ld_D_B
  | .d, .c => .ld_D_C
  | .d, .d => .ld_D_D
  | .d, .e => .ld_D_E
  | .d, .h => .ld_D_H
  | .d, .l => .ld_D_L
  | .d, .a => .ld_D_A
  | .e, .b => .ld_E_B
  | .e, .c => .ld_E_C
  | .e, .d => .ld_E_D
  | .e, .e => .ld_E_E
  | .e, .h => .ld_E_H
  | .e, .l => .ld_E_L
  | .e, .a => .ld_E_A
  | .h, .b => .ld_H_B
  | .h, .c => .ld_H_C
  | .h, .d => .ld_H_D
  | .h, .e => .ld_H_E
  | .h, .h => .ld_H_H
  | .h, .l => .ld_H_L
  | .h, .a => .ld_H_A
  | .l, .b => .ld_L_B
  | .l, .c => .ld_L_C
  | .l, .d => .ld_L_D
  | .l, .e => .ld_L_E
  | .l, .h => .ld_L_H
  | .l, .l => .ld_L_L
  | .l, .a => .ld_L_A
  | .a, .b => .ld_A_B
  | .a, .c => .ld_A_C
  | .a, .d => .ld_A_D
  | .a, .e => .ld_A_E
  | .a, .h => .ld_A_H
  | .a, .l => .ld_A_L
  | .a, .a => .ld_A_A

/-- The rows of block 2 (R104). -/
def Form.aluInstr : AluOp → Operand8 → Instr
  | .add, .reg .b => .add_A_B
  | .add, .reg .c => .add_A_C
  | .add, .reg .d => .add_A_D
  | .add, .reg .e => .add_A_E
  | .add, .reg .h => .add_A_H
  | .add, .reg .l => .add_A_L
  | .add, .atHL => .add_A_atHL
  | .add, .reg .a => .add_A_A
  | .adc, .reg .b => .adc_A_B
  | .adc, .reg .c => .adc_A_C
  | .adc, .reg .d => .adc_A_D
  | .adc, .reg .e => .adc_A_E
  | .adc, .reg .h => .adc_A_H
  | .adc, .reg .l => .adc_A_L
  | .adc, .atHL => .adc_A_atHL
  | .adc, .reg .a => .adc_A_A
  | .sub, .reg .b => .sub_B
  | .sub, .reg .c => .sub_C
  | .sub, .reg .d => .sub_D
  | .sub, .reg .e => .sub_E
  | .sub, .reg .h => .sub_H
  | .sub, .reg .l => .sub_L
  | .sub, .atHL => .sub_atHL
  | .sub, .reg .a => .sub_A
  | .sbc, .reg .b => .sbc_A_B
  | .sbc, .reg .c => .sbc_A_C
  | .sbc, .reg .d => .sbc_A_D
  | .sbc, .reg .e => .sbc_A_E
  | .sbc, .reg .h => .sbc_A_H
  | .sbc, .reg .l => .sbc_A_L
  | .sbc, .atHL => .sbc_A_atHL
  | .sbc, .reg .a => .sbc_A_A
  | .and, .reg .b => .and_B
  | .and, .reg .c => .and_C
  | .and, .reg .d => .and_D
  | .and, .reg .e => .and_E
  | .and, .reg .h => .and_H
  | .and, .reg .l => .and_L
  | .and, .atHL => .and_atHL
  | .and, .reg .a => .and_A
  | .xor, .reg .b => .xor_B
  | .xor, .reg .c => .xor_C
  | .xor, .reg .d => .xor_D
  | .xor, .reg .e => .xor_E
  | .xor, .reg .h => .xor_H
  | .xor, .reg .l => .xor_L
  | .xor, .atHL => .xor_atHL
  | .xor, .reg .a => .xor_A
  | .or, .reg .b => .or_B
  | .or, .reg .c => .or_C
  | .or, .reg .d => .or_D
  | .or, .reg .e => .or_E
  | .or, .reg .h => .or_H
  | .or, .reg .l => .or_L
  | .or, .atHL => .or_atHL
  | .or, .reg .a => .or_A
  | .cp, .reg .b => .cp_B
  | .cp, .reg .c => .cp_C
  | .cp, .reg .d => .cp_D
  | .cp, .reg .e => .cp_E
  | .cp, .reg .h => .cp_H
  | .cp, .reg .l => .cp_L
  | .cp, .atHL => .cp_atHL
  | .cp, .reg .a => .cp_A

/-- The CB rows with `sub = 0` (R106). -/
def Form.rotInstr : RotOp → Operand8 → Instr
  | .rlc, .reg .b => .rlc_B
  | .rlc, .reg .c => .rlc_C
  | .rlc, .reg .d => .rlc_D
  | .rlc, .reg .e => .rlc_E
  | .rlc, .reg .h => .rlc_H
  | .rlc, .reg .l => .rlc_L
  | .rlc, .atHL => .rlc_atHL
  | .rlc, .reg .a => .rlc_A
  | .rrc, .reg .b => .rrc_B
  | .rrc, .reg .c => .rrc_C
  | .rrc, .reg .d => .rrc_D
  | .rrc, .reg .e => .rrc_E
  | .rrc, .reg .h => .rrc_H
  | .rrc, .reg .l => .rrc_L
  | .rrc, .atHL => .rrc_atHL
  | .rrc, .reg .a => .rrc_A
  | .rl, .reg .b => .rl_B
  | .rl, .reg .c => .rl_C
  | .rl, .reg .d => .rl_D
  | .rl, .reg .e => .rl_E
  | .rl, .reg .h => .rl_H
  | .rl, .reg .l => .rl_L
  | .rl, .atHL => .rl_atHL
  | .rl, .reg .a => .rl_A
  | .rr, .reg .b => .rr_B
  | .rr, .reg .c => .rr_C
  | .rr, .reg .d => .rr_D
  | .rr, .reg .e => .rr_E
  | .rr, .reg .h => .rr_H
  | .rr, .reg .l => .rr_L
  | .rr, .atHL => .rr_atHL
  | .rr, .reg .a => .rr_A
  | .sla, .reg .b => .sla_B
  | .sla, .reg .c => .sla_C
  | .sla, .reg .d => .sla_D
  | .sla, .reg .e => .sla_E
  | .sla, .reg .h => .sla_H
  | .sla, .reg .l => .sla_L
  | .sla, .atHL => .sla_atHL
  | .sla, .reg .a => .sla_A
  | .sra, .reg .b => .sra_B
  | .sra, .reg .c => .sra_C
  | .sra, .reg .d => .sra_D
  | .sra, .reg .e => .sra_E
  | .sra, .reg .h => .sra_H
  | .sra, .reg .l => .sra_L
  | .sra, .atHL => .sra_atHL
  | .sra, .reg .a => .sra_A
  | .swap, .reg .b => .swap_B
  | .swap, .reg .c => .swap_C
  | .swap, .reg .d => .swap_D
  | .swap, .reg .e => .swap_E
  | .swap, .reg .h => .swap_H
  | .swap, .reg .l => .swap_L
  | .swap, .atHL => .swap_atHL
  | .swap, .reg .a => .swap_A
  | .srl, .reg .b => .srl_B
  | .srl, .reg .c => .srl_C
  | .srl, .reg .d => .srl_D
  | .srl, .reg .e => .srl_E
  | .srl, .reg .h => .srl_H
  | .srl, .reg .l => .srl_L
  | .srl, .atHL => .srl_atHL
  | .srl, .reg .a => .srl_A

/-- The CB rows with `sub = 1` (R106). -/
def Form.bitInstr : BitIdx → Operand8 → Instr
  | .b0, .reg .b => .bit_0_B
  | .b0, .reg .c => .bit_0_C
  | .b0, .reg .d => .bit_0_D
  | .b0, .reg .e => .bit_0_E
  | .b0, .reg .h => .bit_0_H
  | .b0, .reg .l => .bit_0_L
  | .b0, .atHL => .bit_0_atHL
  | .b0, .reg .a => .bit_0_A
  | .b1, .reg .b => .bit_1_B
  | .b1, .reg .c => .bit_1_C
  | .b1, .reg .d => .bit_1_D
  | .b1, .reg .e => .bit_1_E
  | .b1, .reg .h => .bit_1_H
  | .b1, .reg .l => .bit_1_L
  | .b1, .atHL => .bit_1_atHL
  | .b1, .reg .a => .bit_1_A
  | .b2, .reg .b => .bit_2_B
  | .b2, .reg .c => .bit_2_C
  | .b2, .reg .d => .bit_2_D
  | .b2, .reg .e => .bit_2_E
  | .b2, .reg .h => .bit_2_H
  | .b2, .reg .l => .bit_2_L
  | .b2, .atHL => .bit_2_atHL
  | .b2, .reg .a => .bit_2_A
  | .b3, .reg .b => .bit_3_B
  | .b3, .reg .c => .bit_3_C
  | .b3, .reg .d => .bit_3_D
  | .b3, .reg .e => .bit_3_E
  | .b3, .reg .h => .bit_3_H
  | .b3, .reg .l => .bit_3_L
  | .b3, .atHL => .bit_3_atHL
  | .b3, .reg .a => .bit_3_A
  | .b4, .reg .b => .bit_4_B
  | .b4, .reg .c => .bit_4_C
  | .b4, .reg .d => .bit_4_D
  | .b4, .reg .e => .bit_4_E
  | .b4, .reg .h => .bit_4_H
  | .b4, .reg .l => .bit_4_L
  | .b4, .atHL => .bit_4_atHL
  | .b4, .reg .a => .bit_4_A
  | .b5, .reg .b => .bit_5_B
  | .b5, .reg .c => .bit_5_C
  | .b5, .reg .d => .bit_5_D
  | .b5, .reg .e => .bit_5_E
  | .b5, .reg .h => .bit_5_H
  | .b5, .reg .l => .bit_5_L
  | .b5, .atHL => .bit_5_atHL
  | .b5, .reg .a => .bit_5_A
  | .b6, .reg .b => .bit_6_B
  | .b6, .reg .c => .bit_6_C
  | .b6, .reg .d => .bit_6_D
  | .b6, .reg .e => .bit_6_E
  | .b6, .reg .h => .bit_6_H
  | .b6, .reg .l => .bit_6_L
  | .b6, .atHL => .bit_6_atHL
  | .b6, .reg .a => .bit_6_A
  | .b7, .reg .b => .bit_7_B
  | .b7, .reg .c => .bit_7_C
  | .b7, .reg .d => .bit_7_D
  | .b7, .reg .e => .bit_7_E
  | .b7, .reg .h => .bit_7_H
  | .b7, .reg .l => .bit_7_L
  | .b7, .atHL => .bit_7_atHL
  | .b7, .reg .a => .bit_7_A

/-- The CB rows with `sub = 2` (R106). -/
def Form.resInstr : BitIdx → Operand8 → Instr
  | .b0, .reg .b => .res_0_B
  | .b0, .reg .c => .res_0_C
  | .b0, .reg .d => .res_0_D
  | .b0, .reg .e => .res_0_E
  | .b0, .reg .h => .res_0_H
  | .b0, .reg .l => .res_0_L
  | .b0, .atHL => .res_0_atHL
  | .b0, .reg .a => .res_0_A
  | .b1, .reg .b => .res_1_B
  | .b1, .reg .c => .res_1_C
  | .b1, .reg .d => .res_1_D
  | .b1, .reg .e => .res_1_E
  | .b1, .reg .h => .res_1_H
  | .b1, .reg .l => .res_1_L
  | .b1, .atHL => .res_1_atHL
  | .b1, .reg .a => .res_1_A
  | .b2, .reg .b => .res_2_B
  | .b2, .reg .c => .res_2_C
  | .b2, .reg .d => .res_2_D
  | .b2, .reg .e => .res_2_E
  | .b2, .reg .h => .res_2_H
  | .b2, .reg .l => .res_2_L
  | .b2, .atHL => .res_2_atHL
  | .b2, .reg .a => .res_2_A
  | .b3, .reg .b => .res_3_B
  | .b3, .reg .c => .res_3_C
  | .b3, .reg .d => .res_3_D
  | .b3, .reg .e => .res_3_E
  | .b3, .reg .h => .res_3_H
  | .b3, .reg .l => .res_3_L
  | .b3, .atHL => .res_3_atHL
  | .b3, .reg .a => .res_3_A
  | .b4, .reg .b => .res_4_B
  | .b4, .reg .c => .res_4_C
  | .b4, .reg .d => .res_4_D
  | .b4, .reg .e => .res_4_E
  | .b4, .reg .h => .res_4_H
  | .b4, .reg .l => .res_4_L
  | .b4, .atHL => .res_4_atHL
  | .b4, .reg .a => .res_4_A
  | .b5, .reg .b => .res_5_B
  | .b5, .reg .c => .res_5_C
  | .b5, .reg .d => .res_5_D
  | .b5, .reg .e => .res_5_E
  | .b5, .reg .h => .res_5_H
  | .b5, .reg .l => .res_5_L
  | .b5, .atHL => .res_5_atHL
  | .b5, .reg .a => .res_5_A
  | .b6, .reg .b => .res_6_B
  | .b6, .reg .c => .res_6_C
  | .b6, .reg .d => .res_6_D
  | .b6, .reg .e => .res_6_E
  | .b6, .reg .h => .res_6_H
  | .b6, .reg .l => .res_6_L
  | .b6, .atHL => .res_6_atHL
  | .b6, .reg .a => .res_6_A
  | .b7, .reg .b => .res_7_B
  | .b7, .reg .c => .res_7_C
  | .b7, .reg .d => .res_7_D
  | .b7, .reg .e => .res_7_E
  | .b7, .reg .h => .res_7_H
  | .b7, .reg .l => .res_7_L
  | .b7, .atHL => .res_7_atHL
  | .b7, .reg .a => .res_7_A

/-- The CB rows with `sub = 3` (R106). -/
def Form.setInstr : BitIdx → Operand8 → Instr
  | .b0, .reg .b => .set_0_B
  | .b0, .reg .c => .set_0_C
  | .b0, .reg .d => .set_0_D
  | .b0, .reg .e => .set_0_E
  | .b0, .reg .h => .set_0_H
  | .b0, .reg .l => .set_0_L
  | .b0, .atHL => .set_0_atHL
  | .b0, .reg .a => .set_0_A
  | .b1, .reg .b => .set_1_B
  | .b1, .reg .c => .set_1_C
  | .b1, .reg .d => .set_1_D
  | .b1, .reg .e => .set_1_E
  | .b1, .reg .h => .set_1_H
  | .b1, .reg .l => .set_1_L
  | .b1, .atHL => .set_1_atHL
  | .b1, .reg .a => .set_1_A
  | .b2, .reg .b => .set_2_B
  | .b2, .reg .c => .set_2_C
  | .b2, .reg .d => .set_2_D
  | .b2, .reg .e => .set_2_E
  | .b2, .reg .h => .set_2_H
  | .b2, .reg .l => .set_2_L
  | .b2, .atHL => .set_2_atHL
  | .b2, .reg .a => .set_2_A
  | .b3, .reg .b => .set_3_B
  | .b3, .reg .c => .set_3_C
  | .b3, .reg .d => .set_3_D
  | .b3, .reg .e => .set_3_E
  | .b3, .reg .h => .set_3_H
  | .b3, .reg .l => .set_3_L
  | .b3, .atHL => .set_3_atHL
  | .b3, .reg .a => .set_3_A
  | .b4, .reg .b => .set_4_B
  | .b4, .reg .c => .set_4_C
  | .b4, .reg .d => .set_4_D
  | .b4, .reg .e => .set_4_E
  | .b4, .reg .h => .set_4_H
  | .b4, .reg .l => .set_4_L
  | .b4, .atHL => .set_4_atHL
  | .b4, .reg .a => .set_4_A
  | .b5, .reg .b => .set_5_B
  | .b5, .reg .c => .set_5_C
  | .b5, .reg .d => .set_5_D
  | .b5, .reg .e => .set_5_E
  | .b5, .reg .h => .set_5_H
  | .b5, .reg .l => .set_5_L
  | .b5, .atHL => .set_5_atHL
  | .b5, .reg .a => .set_5_A
  | .b6, .reg .b => .set_6_B
  | .b6, .reg .c => .set_6_C
  | .b6, .reg .d => .set_6_D
  | .b6, .reg .e => .set_6_E
  | .b6, .reg .h => .set_6_H
  | .b6, .reg .l => .set_6_L
  | .b6, .atHL => .set_6_atHL
  | .b6, .reg .a => .set_6_A
  | .b7, .reg .b => .set_7_B
  | .b7, .reg .c => .set_7_C
  | .b7, .reg .d => .set_7_D
  | .b7, .reg .e => .set_7_E
  | .b7, .reg .h => .set_7_H
  | .b7, .reg .l => .set_7_L
  | .b7, .atHL => .set_7_atHL
  | .b7, .reg .a => .set_7_A

/-- The row of the table a form with its operands stands for. -/
def Form.instr : Form → Instr
  | .nop => .nop
  | .ldRpImm .bc nn => .ld_BC_nn nn
  | .ldRpImm .de nn => .ld_DE_nn nn
  | .ldRpImm .hl nn => .ld_HL_nn nn
  | .ldRpImm .sp nn => .ld_SP_nn nn
  | .storeA .bc => .ld_atBC_A
  | .storeA .de => .ld_atDE_A
  | .storeA .hlInc => .ld_atHLinc_A
  | .storeA .hlDec => .ld_atHLdec_A
  | .incRp .bc => .inc_BC
  | .incRp .de => .inc_DE
  | .incRp .hl => .inc_HL
  | .incRp .sp => .inc_SP
  | .inc (.reg .b) => .inc_B
  | .inc (.reg .c) => .inc_C
  | .inc (.reg .d) => .inc_D
  | .inc (.reg .e) => .inc_E
  | .inc (.reg .h) => .inc_H
  | .inc (.reg .l) => .inc_L
  | .inc .atHL => .inc_atHL
  | .inc (.reg .a) => .inc_A
  | .dec (.reg .b) => .dec_B
  | .dec (.reg .c) => .dec_C
  | .dec (.reg .d) => .dec_D
  | .dec (.reg .e) => .dec_E
  | .dec (.reg .h) => .dec_H
  | .dec (.reg .l) => .dec_L
  | .dec .atHL => .dec_atHL
  | .dec (.reg .a) => .dec_A
  | .ldRegImm .b n => .ld_B_n n
  | .ldRegImm .c n => .ld_C_n n
  | .ldRegImm .d n => .ld_D_n n
  | .ldRegImm .e n => .ld_E_n n
  | .ldRegImm .h n => .ld_H_n n
  | .ldRegImm .l n => .ld_L_n n
  | .ldRegImm .a n => .ld_A_n n
  | .rotA .rlca => .rlca
  | .rotA .rrca => .rrca
  | .rotA .rla => .rla
  | .rotA .rra => .rra
  | .ldAbsSP nn => .ld_atnn_SP nn
  | .addHL .bc => .add_HL_BC
  | .addHL .de => .add_HL_DE
  | .addHL .hl => .add_HL_HL
  | .addHL .sp => .add_HL_SP
  | .loadA .bc => .ld_A_atBC
  | .loadA .de => .ld_A_atDE
  | .loadA .hlInc => .ld_A_atHLinc
  | .loadA .hlDec => .ld_A_atHLdec
  | .decRp .bc => .dec_BC
  | .decRp .de => .dec_DE
  | .decRp .hl => .dec_HL
  | .decRp .sp => .dec_SP
  | .stop => .stop
  | .jr e => .jr_e e
  | .jrIf .nz e => .jr_NZ_e e
  | .jrIf .z e => .jr_Z_e e
  | .jrIf .nc e => .jr_NC_e e
  | .jrIf .c e => .jr_C_e e
  | .daa => .daa
  | .cpl => .cpl
  | .ldHLImm n => .ld_atHL_n n
  | .scf => .scf
  | .ccf => .ccf
  | .ldRegReg dst src => Form.ldRegRegInstr dst src
  | .ldRegHL .b => .ld_B_atHL
  | .ldRegHL .c => .ld_C_atHL
  | .ldRegHL .d => .ld_D_atHL
  | .ldRegHL .e => .ld_E_atHL
  | .ldRegHL .h => .ld_H_atHL
  | .ldRegHL .l => .ld_L_atHL
  | .ldRegHL .a => .ld_A_atHL
  | .ldHLReg .b => .ld_atHL_B
  | .ldHLReg .c => .ld_atHL_C
  | .ldHLReg .d => .ld_atHL_D
  | .ldHLReg .e => .ld_atHL_E
  | .ldHLReg .h => .ld_atHL_H
  | .ldHLReg .l => .ld_atHL_L
  | .ldHLReg .a => .ld_atHL_A
  | .halt => .halt
  | .alu op o => Form.aluInstr op o
  | .retIf .nz => .ret_NZ
  | .retIf .z => .ret_Z
  | .retIf .nc => .ret_NC
  | .retIf .c => .ret_C
  | .pop .bc => .pop_BC
  | .pop .de => .pop_DE
  | .pop .hl => .pop_HL
  | .pop .af => .pop_AF
  | .jpIf .nz nn => .jp_NZ_nn nn
  | .jpIf .z nn => .jp_Z_nn nn
  | .jpIf .nc nn => .jp_NC_nn nn
  | .jpIf .c nn => .jp_C_nn nn
  | .jp nn => .jp_nn nn
  | .callIf .nz nn => .call_NZ_nn nn
  | .callIf .z nn => .call_Z_nn nn
  | .callIf .nc nn => .call_NC_nn nn
  | .callIf .c nn => .call_C_nn nn
  | .push .bc => .push_BC
  | .push .de => .push_DE
  | .push .hl => .push_HL
  | .push .af => .push_AF
  | .aluImm .add n => .add_A_n n
  | .aluImm .adc n => .adc_A_n n
  | .aluImm .sub n => .sub_n n
  | .aluImm .sbc n => .sbc_A_n n
  | .aluImm .and n => .and_n n
  | .aluImm .xor n => .xor_n n
  | .aluImm .or n => .or_n n
  | .aluImm .cp n => .cp_n n
  | .rst .v00 => .rst_00
  | .rst .v08 => .rst_08
  | .rst .v10 => .rst_10
  | .rst .v18 => .rst_18
  | .rst .v20 => .rst_20
  | .rst .v28 => .rst_28
  | .rst .v30 => .rst_30
  | .rst .v38 => .rst_38
  | .ret => .ret
  | .prefixCB => .prefix_CB
  | .call nn => .call_nn nn
  | .illegal .xD3 => .illegal_D3
  | .illegal .xDB => .illegal_DB
  | .illegal .xDD => .illegal_DD
  | .illegal .xE3 => .illegal_E3
  | .illegal .xE4 => .illegal_E4
  | .illegal .xEB => .illegal_EB
  | .illegal .xEC => .illegal_EC
  | .illegal .xED => .illegal_ED
  | .illegal .xF4 => .illegal_F4
  | .illegal .xFC => .illegal_FC
  | .illegal .xFD => .illegal_FD
  | .reti => .reti
  | .ldhStore n => .ldh_atn_A n
  | .ldCStore => .ld_atC_A
  | .addSP e => .add_SP_e e
  | .jpHL => .jp_HL
  | .ldAbsStore nn => .ld_atnn_A nn
  | .ldhLoad n => .ldh_A_atn n
  | .ldCLoad => .ld_A_atC
  | .di => .di
  | .ldHLSP e => .ld_HL_SPe e
  | .ldSPHL => .ld_SP_HL
  | .ldAbsLoad nn => .ld_A_atnn nn
  | .ei => .ei
  | .rot op o => Form.rotInstr op o
  | .bit b o => Form.bitInstr b o
  | .res b o => Form.resInstr b o
  | .set b o => Form.setInstr b o

/-! ### Bytes and 16-bit values (R6, R7, R22) -/

/-- `{hi, lo}` of R6: the 16-bit value with `hi` in bits 15:8. -/
def joinBytes (hi lo : Byte) : Word := hi ++ lo

/-- `v[15:8]`. -/
def hiByte (v : Word) : Byte := v.extractLsb' 8 8

/-- `v[7:0]`. -/
def loByte (v : Word) : Byte := v.extractLsb' 0 8

/-- `sext_16(e)` of R7 (R97). -/
def signExtend16 (e : Byte) : Word := e.signExtend 16

/-! ### Fields of an opcode byte (R91, R92) -/

/-- `op[7:6]`: the block, or `sub` of a CB second byte. -/
def fieldBlk (op : Byte) : Nat := (op.extractLsb' 6 2).toNat

/-- `op[5:3]`: the middle field, or `b` of a CB second byte. -/
def fieldMid (op : Byte) : Nat := (op.extractLsb' 3 3).toNat

/-- `op[2:0]`: the low field, or `r` of a CB second byte. -/
def fieldLow (op : Byte) : Nat := (op.extractLsb' 0 3).toNat

/-- `p = op[5:4]`. -/
def fieldP (op : Byte) : Nat := (op.extractLsb' 4 2).toNat

/-- `q = op[3]`. -/
def fieldQ (op : Byte) : Nat := (op.extractLsb' 3 1).toNat

/-- `cc = op[4:3]`. -/
def fieldCc (op : Byte) : Nat := (op.extractLsb' 3 2).toNat

/-! ### Selectors. Each is read from a field that covers exactly its range (R113), so the last case
stands for the greatest index. -/

/-- R93. -/
def operandOfIndex : Nat → Operand8
  | 0 => .reg .b | 1 => .reg .c | 2 => .reg .d | 3 => .reg .e
  | 4 => .reg .h | 5 => .reg .l | 6 => .atHL | _ => .reg .a

/-- R94, `rp`. -/
def rpOfIndex : Nat → Rp
  | 0 => .bc | 1 => .de | 2 => .hl | _ => .sp

/-- R94, `rp2`. -/
def rp2OfIndex : Nat → Rp2
  | 0 => .bc | 1 => .de | 2 => .hl | _ => .af

/-- R94, the indirect reading. -/
def indirectOfIndex : Nat → Indirect
  | 0 => .bc | 1 => .de | 2 => .hlInc | _ => .hlDec

/-- R95. -/
def condOfIndex : Nat → Cond
  | 0 => .nz | 1 => .z | 2 => .nc | _ => .c

/-- R104. -/
def aluOfIndex : Nat → AluOp
  | 0 => .add | 1 => .adc | 2 => .sub | 3 => .sbc | 4 => .and | 5 => .xor | 6 => .or | _ => .cp

/-- R106. -/
def rotOfIndex : Nat → RotOp
  | 0 => .rlc | 1 => .rrc | 2 => .rl | 3 => .rr | 4 => .sla | 5 => .sra | 6 => .swap | _ => .srl

/-- R100. -/
def bitOfIndex : Nat → BitIdx
  | 0 => .b0 | 1 => .b1 | 2 => .b2 | 3 => .b3 | 4 => .b4 | 5 => .b5 | 6 => .b6 | _ => .b7

/-- R99. -/
def rstOfIndex : Nat → RstVec
  | 0 => .v00 | 1 => .v08 | 2 => .v10 | 3 => .v18 | 4 => .v20 | 5 => .v28 | 6 => .v30 | _ => .v38

/-! ### Decoding (R101 to R107). `b0` is the first byte and `b1`, `b2` the two bytes after it. -/

/-- Block 0 (R102). -/
def decodeBlock0 (b0 b1 b2 : Byte) : Form :=
  match fieldLow b0 with
  | 0 =>
    match fieldMid b0 with
    | 0 => .nop
    | 1 => .ldAbsSP (joinBytes b2 b1)
    | 2 => .stop
    | 3 => .jr b1
    | _ => .jrIf (condOfIndex (fieldCc b0)) b1
  | 1 =>
    match fieldQ b0 with
    | 0 => .ldRpImm (rpOfIndex (fieldP b0)) (joinBytes b2 b1)
    | _ => .addHL (rpOfIndex (fieldP b0))
  | 2 =>
    match fieldQ b0 with
    | 0 => .storeA (indirectOfIndex (fieldP b0))
    | _ => .loadA (indirectOfIndex (fieldP b0))
  | 3 =>
    match fieldQ b0 with
    | 0 => .incRp (rpOfIndex (fieldP b0))
    | _ => .decRp (rpOfIndex (fieldP b0))
  | 4 => .inc (operandOfIndex (fieldMid b0))
  | 5 => .dec (operandOfIndex (fieldMid b0))
  | 6 =>
    match operandOfIndex (fieldMid b0) with
    | .reg dst => .ldRegImm dst b1
    | .atHL => .ldHLImm b1
  | _ =>
    match fieldMid b0 with
    | 0 => .rotA .rlca
    | 1 => .rotA .rrca
    | 2 => .rotA .rla
    | 3 => .rotA .rra
    | 4 => .daa
    | 5 => .cpl
    | 6 => .scf
    | _ => .ccf

/-- Block 1 (R103): `LD dst,src`, and HALT where both are the byte at HL. -/
def decodeBlock1 (b0 : Byte) : Form :=
  match operandOfIndex (fieldMid b0), operandOfIndex (fieldLow b0) with
  | .reg dst, .reg src => .ldRegReg dst src
  | .reg dst, .atHL => .ldRegHL dst
  | .atHL, .reg src => .ldHLReg src
  | .atHL, .atHL => .halt

/-- Block 2 (R104). -/
def decodeBlock2 (b0 : Byte) : Form :=
  .alu (aluOfIndex (fieldMid b0)) (operandOfIndex (fieldLow b0))

/-- Block 3 without the prefix (R105, R107). -/
def decodeBlock3 (b0 b1 b2 : Byte) : Form :=
  match fieldLow b0 with
  | 0 =>
    match fieldMid b0 with
    | 4 => .ldhStore b1
    | 5 => .addSP b1
    | 6 => .ldhLoad b1
    | 7 => .ldHLSP b1
    | _ => .retIf (condOfIndex (fieldCc b0))
  | 1 =>
    match fieldQ b0, fieldP b0 with
    | 0, p => .pop (rp2OfIndex p)
    | _, 0 => .ret
    | _, 1 => .reti
    | _, 2 => .jpHL
    | _, _ => .ldSPHL
  | 2 =>
    match fieldMid b0 with
    | 4 => .ldCStore
    | 5 => .ldAbsStore (joinBytes b2 b1)
    | 6 => .ldCLoad
    | 7 => .ldAbsLoad (joinBytes b2 b1)
    | _ => .jpIf (condOfIndex (fieldCc b0)) (joinBytes b2 b1)
  | 3 =>
    match fieldMid b0 with
    | 0 => .jp (joinBytes b2 b1)
    | 1 => .prefixCB
    | 2 => .illegal .xD3
    | 3 => .illegal .xDB
    | 4 => .illegal .xE3
    | 5 => .illegal .xEB
    | 6 => .di
    | _ => .ei
  | 4 =>
    match fieldMid b0 with
    | 4 => .illegal .xE4
    | 5 => .illegal .xEC
    | 6 => .illegal .xF4
    | 7 => .illegal .xFC
    | _ => .callIf (condOfIndex (fieldCc b0)) (joinBytes b2 b1)
  | 5 =>
    match fieldQ b0, fieldP b0 with
    | 0, p => .push (rp2OfIndex p)
    | _, 0 => .call (joinBytes b2 b1)
    | _, 1 => .illegal .xDD
    | _, 2 => .illegal .xED
    | _, _ => .illegal .xFD
  | 6 => .aluImm (aluOfIndex (fieldMid b0)) b1
  | _ => .rst (rstOfIndex (fieldMid b0))

/-- The CB-prefixed page (R106). -/
def decodeCB (cb : Byte) : Form :=
  match fieldBlk cb with
  | 0 => .rot (rotOfIndex (fieldMid cb)) (operandOfIndex (fieldLow cb))
  | 1 => .bit (bitOfIndex (fieldMid cb)) (operandOfIndex (fieldLow cb))
  | 2 => .res (bitOfIndex (fieldMid cb)) (operandOfIndex (fieldLow cb))
  | _ => .set (bitOfIndex (fieldMid cb)) (operandOfIndex (fieldLow cb))

/-- Top-level dispatch (R101): the prefix test comes first. -/
def decodeForm (b0 b1 b2 : Byte) : Form :=
  if b0 = 0xCB then decodeCB b1
  else
    match fieldBlk b0 with
    | 0 => decodeBlock0 b0 b1 b2
    | 1 => decodeBlock1 b0
    | 2 => decodeBlock2 b0
    | _ => decodeBlock3 b0 b1 b2

/-- The instruction that three consecutive bytes begin with; total. -/
def decodeBytes (b0 b1 b2 : Byte) : Instr := (decodeForm b0 b1 b2).instr

/-- The 3-byte first bytes (R109). -/
def threeByteOpcodes : List Byte :=
  [ 0x01, 0x11, 0x21, 0x31, 0x08, 0xC2, 0xCA, 0xD2, 0xDA, 0xC3, 0xC4, 0xCC, 0xD4, 0xDC, 0xCD,
    0xEA, 0xFA ]

/-- The 2-byte first bytes (R109); the last is the prefix. -/
def twoByteOpcodes : List Byte :=
  [ 0x06, 0x0E, 0x16, 0x1E, 0x26, 0x2E, 0x36, 0x3E, 0x18, 0x20, 0x28, 0x30, 0x38, 0xC6, 0xCE,
    0xD6, 0xDE, 0xE6, 0xEE, 0xF6, 0xFE, 0xE0, 0xF0, 0xE8, 0xF8, 0xCB ]

/-- The length of an instruction, "known from its first byte alone" (R109). -/
def instrLength (b0 : Byte) : Nat :=
  if b0 ∈ threeByteOpcodes then 3 else if b0 ∈ twoByteOpcodes then 2 else 1

/-- Why a list of bytes holds no instruction. Every first byte and every CB second byte is a row of
the table (R107), so only a list that ends too early is rejected. -/
inductive DecodeError where
  /-- There is no byte. -/
  | noBytes
  /-- The list ends before the operand bytes of the instruction that starts with `first`. -/
  | truncated (first : Byte)
  deriving DecidableEq, Repr

/-- The instruction at the head of a list of bytes, and the rest of the list. Total. A list that ends
after the prefix byte is the table's row PREFIX CB, which is no complete instruction
(`Instr.wellFormed`); followed by any byte, the prefix and that byte are one instruction (R101). -/
def decode : List Byte → Except DecodeError (Instr × List Byte)
  | [] => .error .noBytes
  | b0 :: rest =>
    match instrLength b0, rest with
    | 3, b1 :: b2 :: rest' => .ok (decodeBytes b0 b1 b2, rest')
    | 2, b1 :: rest' => .ok (decodeBytes b0 b1 0x00, rest')
    | 1, rest' => .ok (decodeBytes b0 0x00 0x00, rest')
    | _, _ => if b0 = 0xCB then .ok (.prefix_CB, []) else .error (.truncated b0)

/-- `k` bytes of `w`, the least significant first: the order in which they stand at rising addresses. -/
def tableBytes : Nat → Nat → List Byte
  | 0, _ => []
  | k + 1, w => BitVec.ofNat 8 w :: tableBytes k (w / 256)

/-- What the decoder reads from an instruction of `nbits` bits `w`, bit 0 the least significant bit of
the first byte; where the bytes given end before the instruction does, its remaining bytes are zero. -/
def decodeTableWord (nbits w : Nat) : Option Instr :=
  match decode (tableBytes (nbits / 8) w) with
  | .ok (i, _) => some i
  | .error _ =>
    match decode (tableBytes (nbits / 8) w ++ [0x00, 0x00, 0x00]) with
    | .ok (i, _) => some i
    | .error _ => none

/-! ### Encoding: the bytes of each row of spec/opcode_table.json -/

/-- The bytes of an instruction at rising addresses (R90): the row's opcode byte or bytes, then its
immediate, `nn` low byte first (R98). -/
def encode : Instr → List Byte
  | .nop => [0x00]
  | .ld_BC_nn nn => [0x01, loByte nn, hiByte nn]
  | .ld_atBC_A => [0x02]
  | .inc_BC => [0x03]
  | .inc_B => [0x04]
  | .dec_B => [0x05]
  | .ld_B_n n => [0x06, n]
  | .rlca => [0x07]
  | .ld_atnn_SP nn => [0x08, loByte nn, hiByte nn]
  | .add_HL_BC => [0x09]
  | .ld_A_atBC => [0x0A]
  | .dec_BC => [0x0B]
  | .inc_C => [0x0C]
  | .dec_C => [0x0D]
  | .ld_C_n n => [0x0E, n]
  | .rrca => [0x0F]
  | .stop => [0x10]
  | .ld_DE_nn nn => [0x11, loByte nn, hiByte nn]
  | .ld_atDE_A => [0x12]
  | .inc_DE => [0x13]
  | .inc_D => [0x14]
  | .dec_D => [0x15]
  | .ld_D_n n => [0x16, n]
  | .rla => [0x17]
  | .jr_e e => [0x18, e]
  | .add_HL_DE => [0x19]
  | .ld_A_atDE => [0x1A]
  | .dec_DE => [0x1B]
  | .inc_E => [0x1C]
  | .dec_E => [0x1D]
  | .ld_E_n n => [0x1E, n]
  | .rra => [0x1F]
  | .jr_NZ_e e => [0x20, e]
  | .ld_HL_nn nn => [0x21, loByte nn, hiByte nn]
  | .ld_atHLinc_A => [0x22]
  | .inc_HL => [0x23]
  | .inc_H => [0x24]
  | .dec_H => [0x25]
  | .ld_H_n n => [0x26, n]
  | .daa => [0x27]
  | .jr_Z_e e => [0x28, e]
  | .add_HL_HL => [0x29]
  | .ld_A_atHLinc => [0x2A]
  | .dec_HL => [0x2B]
  | .inc_L => [0x2C]
  | .dec_L => [0x2D]
  | .ld_L_n n => [0x2E, n]
  | .cpl => [0x2F]
  | .jr_NC_e e => [0x30, e]
  | .ld_SP_nn nn => [0x31, loByte nn, hiByte nn]
  | .ld_atHLdec_A => [0x32]
  | .inc_SP => [0x33]
  | .inc_atHL => [0x34]
  | .dec_atHL => [0x35]
  | .ld_atHL_n n => [0x36, n]
  | .scf => [0x37]
  | .jr_C_e e => [0x38, e]
  | .add_HL_SP => [0x39]
  | .ld_A_atHLdec => [0x3A]
  | .dec_SP => [0x3B]
  | .inc_A => [0x3C]
  | .dec_A => [0x3D]
  | .ld_A_n n => [0x3E, n]
  | .ccf => [0x3F]
  | .ld_B_B => [0x40]
  | .ld_B_C => [0x41]
  | .ld_B_D => [0x42]
  | .ld_B_E => [0x43]
  | .ld_B_H => [0x44]
  | .ld_B_L => [0x45]
  | .ld_B_atHL => [0x46]
  | .ld_B_A => [0x47]
  | .ld_C_B => [0x48]
  | .ld_C_C => [0x49]
  | .ld_C_D => [0x4A]
  | .ld_C_E => [0x4B]
  | .ld_C_H => [0x4C]
  | .ld_C_L => [0x4D]
  | .ld_C_atHL => [0x4E]
  | .ld_C_A => [0x4F]
  | .ld_D_B => [0x50]
  | .ld_D_C => [0x51]
  | .ld_D_D => [0x52]
  | .ld_D_E => [0x53]
  | .ld_D_H => [0x54]
  | .ld_D_L => [0x55]
  | .ld_D_atHL => [0x56]
  | .ld_D_A => [0x57]
  | .ld_E_B => [0x58]
  | .ld_E_C => [0x59]
  | .ld_E_D => [0x5A]
  | .ld_E_E => [0x5B]
  | .ld_E_H => [0x5C]
  | .ld_E_L => [0x5D]
  | .ld_E_atHL => [0x5E]
  | .ld_E_A => [0x5F]
  | .ld_H_B => [0x60]
  | .ld_H_C => [0x61]
  | .ld_H_D => [0x62]
  | .ld_H_E => [0x63]
  | .ld_H_H => [0x64]
  | .ld_H_L => [0x65]
  | .ld_H_atHL => [0x66]
  | .ld_H_A => [0x67]
  | .ld_L_B => [0x68]
  | .ld_L_C => [0x69]
  | .ld_L_D => [0x6A]
  | .ld_L_E => [0x6B]
  | .ld_L_H => [0x6C]
  | .ld_L_L => [0x6D]
  | .ld_L_atHL => [0x6E]
  | .ld_L_A => [0x6F]
  | .ld_atHL_B => [0x70]
  | .ld_atHL_C => [0x71]
  | .ld_atHL_D => [0x72]
  | .ld_atHL_E => [0x73]
  | .ld_atHL_H => [0x74]
  | .ld_atHL_L => [0x75]
  | .halt => [0x76]
  | .ld_atHL_A => [0x77]
  | .ld_A_B => [0x78]
  | .ld_A_C => [0x79]
  | .ld_A_D => [0x7A]
  | .ld_A_E => [0x7B]
  | .ld_A_H => [0x7C]
  | .ld_A_L => [0x7D]
  | .ld_A_atHL => [0x7E]
  | .ld_A_A => [0x7F]
  | .add_A_B => [0x80]
  | .add_A_C => [0x81]
  | .add_A_D => [0x82]
  | .add_A_E => [0x83]
  | .add_A_H => [0x84]
  | .add_A_L => [0x85]
  | .add_A_atHL => [0x86]
  | .add_A_A => [0x87]
  | .adc_A_B => [0x88]
  | .adc_A_C => [0x89]
  | .adc_A_D => [0x8A]
  | .adc_A_E => [0x8B]
  | .adc_A_H => [0x8C]
  | .adc_A_L => [0x8D]
  | .adc_A_atHL => [0x8E]
  | .adc_A_A => [0x8F]
  | .sub_B => [0x90]
  | .sub_C => [0x91]
  | .sub_D => [0x92]
  | .sub_E => [0x93]
  | .sub_H => [0x94]
  | .sub_L => [0x95]
  | .sub_atHL => [0x96]
  | .sub_A => [0x97]
  | .sbc_A_B => [0x98]
  | .sbc_A_C => [0x99]
  | .sbc_A_D => [0x9A]
  | .sbc_A_E => [0x9B]
  | .sbc_A_H => [0x9C]
  | .sbc_A_L => [0x9D]
  | .sbc_A_atHL => [0x9E]
  | .sbc_A_A => [0x9F]
  | .and_B => [0xA0]
  | .and_C => [0xA1]
  | .and_D => [0xA2]
  | .and_E => [0xA3]
  | .and_H => [0xA4]
  | .and_L => [0xA5]
  | .and_atHL => [0xA6]
  | .and_A => [0xA7]
  | .xor_B => [0xA8]
  | .xor_C => [0xA9]
  | .xor_D => [0xAA]
  | .xor_E => [0xAB]
  | .xor_H => [0xAC]
  | .xor_L => [0xAD]
  | .xor_atHL => [0xAE]
  | .xor_A => [0xAF]
  | .or_B => [0xB0]
  | .or_C => [0xB1]
  | .or_D => [0xB2]
  | .or_E => [0xB3]
  | .or_H => [0xB4]
  | .or_L => [0xB5]
  | .or_atHL => [0xB6]
  | .or_A => [0xB7]
  | .cp_B => [0xB8]
  | .cp_C => [0xB9]
  | .cp_D => [0xBA]
  | .cp_E => [0xBB]
  | .cp_H => [0xBC]
  | .cp_L => [0xBD]
  | .cp_atHL => [0xBE]
  | .cp_A => [0xBF]
  | .ret_NZ => [0xC0]
  | .pop_BC => [0xC1]
  | .jp_NZ_nn nn => [0xC2, loByte nn, hiByte nn]
  | .jp_nn nn => [0xC3, loByte nn, hiByte nn]
  | .call_NZ_nn nn => [0xC4, loByte nn, hiByte nn]
  | .push_BC => [0xC5]
  | .add_A_n n => [0xC6, n]
  | .rst_00 => [0xC7]
  | .ret_Z => [0xC8]
  | .ret => [0xC9]
  | .jp_Z_nn nn => [0xCA, loByte nn, hiByte nn]
  | .prefix_CB => [0xCB]
  | .call_Z_nn nn => [0xCC, loByte nn, hiByte nn]
  | .call_nn nn => [0xCD, loByte nn, hiByte nn]
  | .adc_A_n n => [0xCE, n]
  | .rst_08 => [0xCF]
  | .ret_NC => [0xD0]
  | .pop_DE => [0xD1]
  | .jp_NC_nn nn => [0xD2, loByte nn, hiByte nn]
  | .illegal_D3 => [0xD3]
  | .call_NC_nn nn => [0xD4, loByte nn, hiByte nn]
  | .push_DE => [0xD5]
  | .sub_n n => [0xD6, n]
  | .rst_10 => [0xD7]
  | .ret_C => [0xD8]
  | .reti => [0xD9]
  | .jp_C_nn nn => [0xDA, loByte nn, hiByte nn]
  | .illegal_DB => [0xDB]
  | .call_C_nn nn => [0xDC, loByte nn, hiByte nn]
  | .illegal_DD => [0xDD]
  | .sbc_A_n n => [0xDE, n]
  | .rst_18 => [0xDF]
  | .ldh_atn_A n => [0xE0, n]
  | .pop_HL => [0xE1]
  | .ld_atC_A => [0xE2]
  | .illegal_E3 => [0xE3]
  | .illegal_E4 => [0xE4]
  | .push_HL => [0xE5]
  | .and_n n => [0xE6, n]
  | .rst_20 => [0xE7]
  | .add_SP_e e => [0xE8, e]
  | .jp_HL => [0xE9]
  | .ld_atnn_A nn => [0xEA, loByte nn, hiByte nn]
  | .illegal_EB => [0xEB]
  | .illegal_EC => [0xEC]
  | .illegal_ED => [0xED]
  | .xor_n n => [0xEE, n]
  | .rst_28 => [0xEF]
  | .ldh_A_atn n => [0xF0, n]
  | .pop_AF => [0xF1]
  | .ld_A_atC => [0xF2]
  | .di => [0xF3]
  | .illegal_F4 => [0xF4]
  | .push_AF => [0xF5]
  | .or_n n => [0xF6, n]
  | .rst_30 => [0xF7]
  | .ld_HL_SPe e => [0xF8, e]
  | .ld_SP_HL => [0xF9]
  | .ld_A_atnn nn => [0xFA, loByte nn, hiByte nn]
  | .ei => [0xFB]
  | .illegal_FC => [0xFC]
  | .illegal_FD => [0xFD]
  | .cp_n n => [0xFE, n]
  | .rst_38 => [0xFF]
  | .rlc_B => [0xCB, 0x00]
  | .rlc_C => [0xCB, 0x01]
  | .rlc_D => [0xCB, 0x02]
  | .rlc_E => [0xCB, 0x03]
  | .rlc_H => [0xCB, 0x04]
  | .rlc_L => [0xCB, 0x05]
  | .rlc_atHL => [0xCB, 0x06]
  | .rlc_A => [0xCB, 0x07]
  | .rrc_B => [0xCB, 0x08]
  | .rrc_C => [0xCB, 0x09]
  | .rrc_D => [0xCB, 0x0A]
  | .rrc_E => [0xCB, 0x0B]
  | .rrc_H => [0xCB, 0x0C]
  | .rrc_L => [0xCB, 0x0D]
  | .rrc_atHL => [0xCB, 0x0E]
  | .rrc_A => [0xCB, 0x0F]
  | .rl_B => [0xCB, 0x10]
  | .rl_C => [0xCB, 0x11]
  | .rl_D => [0xCB, 0x12]
  | .rl_E => [0xCB, 0x13]
  | .rl_H => [0xCB, 0x14]
  | .rl_L => [0xCB, 0x15]
  | .rl_atHL => [0xCB, 0x16]
  | .rl_A => [0xCB, 0x17]
  | .rr_B => [0xCB, 0x18]
  | .rr_C => [0xCB, 0x19]
  | .rr_D => [0xCB, 0x1A]
  | .rr_E => [0xCB, 0x1B]
  | .rr_H => [0xCB, 0x1C]
  | .rr_L => [0xCB, 0x1D]
  | .rr_atHL => [0xCB, 0x1E]
  | .rr_A => [0xCB, 0x1F]
  | .sla_B => [0xCB, 0x20]
  | .sla_C => [0xCB, 0x21]
  | .sla_D => [0xCB, 0x22]
  | .sla_E => [0xCB, 0x23]
  | .sla_H => [0xCB, 0x24]
  | .sla_L => [0xCB, 0x25]
  | .sla_atHL => [0xCB, 0x26]
  | .sla_A => [0xCB, 0x27]
  | .sra_B => [0xCB, 0x28]
  | .sra_C => [0xCB, 0x29]
  | .sra_D => [0xCB, 0x2A]
  | .sra_E => [0xCB, 0x2B]
  | .sra_H => [0xCB, 0x2C]
  | .sra_L => [0xCB, 0x2D]
  | .sra_atHL => [0xCB, 0x2E]
  | .sra_A => [0xCB, 0x2F]
  | .swap_B => [0xCB, 0x30]
  | .swap_C => [0xCB, 0x31]
  | .swap_D => [0xCB, 0x32]
  | .swap_E => [0xCB, 0x33]
  | .swap_H => [0xCB, 0x34]
  | .swap_L => [0xCB, 0x35]
  | .swap_atHL => [0xCB, 0x36]
  | .swap_A => [0xCB, 0x37]
  | .srl_B => [0xCB, 0x38]
  | .srl_C => [0xCB, 0x39]
  | .srl_D => [0xCB, 0x3A]
  | .srl_E => [0xCB, 0x3B]
  | .srl_H => [0xCB, 0x3C]
  | .srl_L => [0xCB, 0x3D]
  | .srl_atHL => [0xCB, 0x3E]
  | .srl_A => [0xCB, 0x3F]
  | .bit_0_B => [0xCB, 0x40]
  | .bit_0_C => [0xCB, 0x41]
  | .bit_0_D => [0xCB, 0x42]
  | .bit_0_E => [0xCB, 0x43]
  | .bit_0_H => [0xCB, 0x44]
  | .bit_0_L => [0xCB, 0x45]
  | .bit_0_atHL => [0xCB, 0x46]
  | .bit_0_A => [0xCB, 0x47]
  | .bit_1_B => [0xCB, 0x48]
  | .bit_1_C => [0xCB, 0x49]
  | .bit_1_D => [0xCB, 0x4A]
  | .bit_1_E => [0xCB, 0x4B]
  | .bit_1_H => [0xCB, 0x4C]
  | .bit_1_L => [0xCB, 0x4D]
  | .bit_1_atHL => [0xCB, 0x4E]
  | .bit_1_A => [0xCB, 0x4F]
  | .bit_2_B => [0xCB, 0x50]
  | .bit_2_C => [0xCB, 0x51]
  | .bit_2_D => [0xCB, 0x52]
  | .bit_2_E => [0xCB, 0x53]
  | .bit_2_H => [0xCB, 0x54]
  | .bit_2_L => [0xCB, 0x55]
  | .bit_2_atHL => [0xCB, 0x56]
  | .bit_2_A => [0xCB, 0x57]
  | .bit_3_B => [0xCB, 0x58]
  | .bit_3_C => [0xCB, 0x59]
  | .bit_3_D => [0xCB, 0x5A]
  | .bit_3_E => [0xCB, 0x5B]
  | .bit_3_H => [0xCB, 0x5C]
  | .bit_3_L => [0xCB, 0x5D]
  | .bit_3_atHL => [0xCB, 0x5E]
  | .bit_3_A => [0xCB, 0x5F]
  | .bit_4_B => [0xCB, 0x60]
  | .bit_4_C => [0xCB, 0x61]
  | .bit_4_D => [0xCB, 0x62]
  | .bit_4_E => [0xCB, 0x63]
  | .bit_4_H => [0xCB, 0x64]
  | .bit_4_L => [0xCB, 0x65]
  | .bit_4_atHL => [0xCB, 0x66]
  | .bit_4_A => [0xCB, 0x67]
  | .bit_5_B => [0xCB, 0x68]
  | .bit_5_C => [0xCB, 0x69]
  | .bit_5_D => [0xCB, 0x6A]
  | .bit_5_E => [0xCB, 0x6B]
  | .bit_5_H => [0xCB, 0x6C]
  | .bit_5_L => [0xCB, 0x6D]
  | .bit_5_atHL => [0xCB, 0x6E]
  | .bit_5_A => [0xCB, 0x6F]
  | .bit_6_B => [0xCB, 0x70]
  | .bit_6_C => [0xCB, 0x71]
  | .bit_6_D => [0xCB, 0x72]
  | .bit_6_E => [0xCB, 0x73]
  | .bit_6_H => [0xCB, 0x74]
  | .bit_6_L => [0xCB, 0x75]
  | .bit_6_atHL => [0xCB, 0x76]
  | .bit_6_A => [0xCB, 0x77]
  | .bit_7_B => [0xCB, 0x78]
  | .bit_7_C => [0xCB, 0x79]
  | .bit_7_D => [0xCB, 0x7A]
  | .bit_7_E => [0xCB, 0x7B]
  | .bit_7_H => [0xCB, 0x7C]
  | .bit_7_L => [0xCB, 0x7D]
  | .bit_7_atHL => [0xCB, 0x7E]
  | .bit_7_A => [0xCB, 0x7F]
  | .res_0_B => [0xCB, 0x80]
  | .res_0_C => [0xCB, 0x81]
  | .res_0_D => [0xCB, 0x82]
  | .res_0_E => [0xCB, 0x83]
  | .res_0_H => [0xCB, 0x84]
  | .res_0_L => [0xCB, 0x85]
  | .res_0_atHL => [0xCB, 0x86]
  | .res_0_A => [0xCB, 0x87]
  | .res_1_B => [0xCB, 0x88]
  | .res_1_C => [0xCB, 0x89]
  | .res_1_D => [0xCB, 0x8A]
  | .res_1_E => [0xCB, 0x8B]
  | .res_1_H => [0xCB, 0x8C]
  | .res_1_L => [0xCB, 0x8D]
  | .res_1_atHL => [0xCB, 0x8E]
  | .res_1_A => [0xCB, 0x8F]
  | .res_2_B => [0xCB, 0x90]
  | .res_2_C => [0xCB, 0x91]
  | .res_2_D => [0xCB, 0x92]
  | .res_2_E => [0xCB, 0x93]
  | .res_2_H => [0xCB, 0x94]
  | .res_2_L => [0xCB, 0x95]
  | .res_2_atHL => [0xCB, 0x96]
  | .res_2_A => [0xCB, 0x97]
  | .res_3_B => [0xCB, 0x98]
  | .res_3_C => [0xCB, 0x99]
  | .res_3_D => [0xCB, 0x9A]
  | .res_3_E => [0xCB, 0x9B]
  | .res_3_H => [0xCB, 0x9C]
  | .res_3_L => [0xCB, 0x9D]
  | .res_3_atHL => [0xCB, 0x9E]
  | .res_3_A => [0xCB, 0x9F]
  | .res_4_B => [0xCB, 0xA0]
  | .res_4_C => [0xCB, 0xA1]
  | .res_4_D => [0xCB, 0xA2]
  | .res_4_E => [0xCB, 0xA3]
  | .res_4_H => [0xCB, 0xA4]
  | .res_4_L => [0xCB, 0xA5]
  | .res_4_atHL => [0xCB, 0xA6]
  | .res_4_A => [0xCB, 0xA7]
  | .res_5_B => [0xCB, 0xA8]
  | .res_5_C => [0xCB, 0xA9]
  | .res_5_D => [0xCB, 0xAA]
  | .res_5_E => [0xCB, 0xAB]
  | .res_5_H => [0xCB, 0xAC]
  | .res_5_L => [0xCB, 0xAD]
  | .res_5_atHL => [0xCB, 0xAE]
  | .res_5_A => [0xCB, 0xAF]
  | .res_6_B => [0xCB, 0xB0]
  | .res_6_C => [0xCB, 0xB1]
  | .res_6_D => [0xCB, 0xB2]
  | .res_6_E => [0xCB, 0xB3]
  | .res_6_H => [0xCB, 0xB4]
  | .res_6_L => [0xCB, 0xB5]
  | .res_6_atHL => [0xCB, 0xB6]
  | .res_6_A => [0xCB, 0xB7]
  | .res_7_B => [0xCB, 0xB8]
  | .res_7_C => [0xCB, 0xB9]
  | .res_7_D => [0xCB, 0xBA]
  | .res_7_E => [0xCB, 0xBB]
  | .res_7_H => [0xCB, 0xBC]
  | .res_7_L => [0xCB, 0xBD]
  | .res_7_atHL => [0xCB, 0xBE]
  | .res_7_A => [0xCB, 0xBF]
  | .set_0_B => [0xCB, 0xC0]
  | .set_0_C => [0xCB, 0xC1]
  | .set_0_D => [0xCB, 0xC2]
  | .set_0_E => [0xCB, 0xC3]
  | .set_0_H => [0xCB, 0xC4]
  | .set_0_L => [0xCB, 0xC5]
  | .set_0_atHL => [0xCB, 0xC6]
  | .set_0_A => [0xCB, 0xC7]
  | .set_1_B => [0xCB, 0xC8]
  | .set_1_C => [0xCB, 0xC9]
  | .set_1_D => [0xCB, 0xCA]
  | .set_1_E => [0xCB, 0xCB]
  | .set_1_H => [0xCB, 0xCC]
  | .set_1_L => [0xCB, 0xCD]
  | .set_1_atHL => [0xCB, 0xCE]
  | .set_1_A => [0xCB, 0xCF]
  | .set_2_B => [0xCB, 0xD0]
  | .set_2_C => [0xCB, 0xD1]
  | .set_2_D => [0xCB, 0xD2]
  | .set_2_E => [0xCB, 0xD3]
  | .set_2_H => [0xCB, 0xD4]
  | .set_2_L => [0xCB, 0xD5]
  | .set_2_atHL => [0xCB, 0xD6]
  | .set_2_A => [0xCB, 0xD7]
  | .set_3_B => [0xCB, 0xD8]
  | .set_3_C => [0xCB, 0xD9]
  | .set_3_D => [0xCB, 0xDA]
  | .set_3_E => [0xCB, 0xDB]
  | .set_3_H => [0xCB, 0xDC]
  | .set_3_L => [0xCB, 0xDD]
  | .set_3_atHL => [0xCB, 0xDE]
  | .set_3_A => [0xCB, 0xDF]
  | .set_4_B => [0xCB, 0xE0]
  | .set_4_C => [0xCB, 0xE1]
  | .set_4_D => [0xCB, 0xE2]
  | .set_4_E => [0xCB, 0xE3]
  | .set_4_H => [0xCB, 0xE4]
  | .set_4_L => [0xCB, 0xE5]
  | .set_4_atHL => [0xCB, 0xE6]
  | .set_4_A => [0xCB, 0xE7]
  | .set_5_B => [0xCB, 0xE8]
  | .set_5_C => [0xCB, 0xE9]
  | .set_5_D => [0xCB, 0xEA]
  | .set_5_E => [0xCB, 0xEB]
  | .set_5_H => [0xCB, 0xEC]
  | .set_5_L => [0xCB, 0xED]
  | .set_5_atHL => [0xCB, 0xEE]
  | .set_5_A => [0xCB, 0xEF]
  | .set_6_B => [0xCB, 0xF0]
  | .set_6_C => [0xCB, 0xF1]
  | .set_6_D => [0xCB, 0xF2]
  | .set_6_E => [0xCB, 0xF3]
  | .set_6_H => [0xCB, 0xF4]
  | .set_6_L => [0xCB, 0xF5]
  | .set_6_atHL => [0xCB, 0xF6]
  | .set_6_A => [0xCB, 0xF7]
  | .set_7_B => [0xCB, 0xF8]
  | .set_7_C => [0xCB, 0xF9]
  | .set_7_D => [0xCB, 0xFA]
  | .set_7_E => [0xCB, 0xFB]
  | .set_7_H => [0xCB, 0xFC]
  | .set_7_L => [0xCB, 0xFD]
  | .set_7_atHL => [0xCB, 0xFE]
  | .set_7_A => [0xCB, 0xFF]

end Sys2Proof
end

