-- ==== Sys2Proof/Config.lean ====
section
/-! DEFINITION. What is fixed from outside the machine: how an array of memory is held, what a cell
that is not listed reads as, and the four parameters the spec gives the model (R4). -/

namespace Sys2Proof.Machine

open Sys2Proof

/-- The content of one of the bus's byte arrays (R28): (index, byte) pairs in one canonical form,
indexes strictly rising and no entry equal to `unlisted`; `Memory.wf` of `Machine/Ops.lean` says so. -/
abbrev Memory := List Host.Cell

/-- What a cell that is not listed reads as. DESIGN CHOICE (log 2), unsafe: the spec leaves the
content of every array at reset to the parameters of R4, which list it; an unlisted cell is 0x00. -/
def unlisted : Byte := 0x00

/-- The parameter `BOOT_MODE` of R4. -/
inductive BootMode where
  /-- Boot-ROM execution is skipped (R36). -/
  | skipBoot
  /-- Boot-ROM execution is emulated (R37). -/
  | runBoot
  deriving DecidableEq, Repr

/-- The parameters of R4: `BOOT_MODE`, `BOOT_ROM`, `CART_ROM` and `RAM_INIT` (the last in its six
parts). Reset is a function of them (R330), and a statement about every start quantifies over them. -/
structure ResetParams where
  bootMode       : BootMode
  bootRom        : Memory
  cartRom        : Memory
  vramInit       : Memory
  wramInit       : Memory
  ioInit         : Memory
  hramInit       : Memory
  serialDataInit : Byte
  serialCtrlInit : Byte
  deriving DecidableEq, Repr

/-- The parameters of `State.reset`: `SkipBoot`, and every array and both serial registers zero.
DESIGN CHOICE (log 1), unsafe: the spec gives none of these values. They are the base state of the
spec's own test vectors (95_test_vectors.md). -/
def Config.resetParams : ResetParams :=
  { bootMode := .skipBoot, bootRom := [], cartRom := [], vramInit := [], wramInit := [],
    ioInit := [], hramInit := [], serialDataInit := 0x00, serialCtrlInit := 0x00 }

end Sys2Proof.Machine
end

