-- ==== Sys2Proof/Machine/State.lean ====
section
/-! DEFINITION. The whole state of the block (10_state.md, section 1), the reasons a step can stop,
and reset (R36 to R39). Plain data throughout. -/

namespace Sys2Proof.Machine

open Sys2Proof

/-- The two faults of the block (R302, R303), as the fault latch records them (R32).
A step answers one of them, and only one, from a state whose latch already holds it: the machine
takes no further Step (R305). Safe: the model stops where the spec says the run has ended. -/
inductive Fault where
  /-- Recorded by the Step whose first byte is one of the eleven unused bytes (R302): the byte and
  the address it was fetched from. Answered by `step` from every state latched with it. Safe. -/
  | illegalOpcode (op : Byte) (pcOp : Word)
  /-- Recorded by the Step whose first byte is 0x10, STOP (R303): the address it was fetched from.
  Answered by `step` from every state latched with it. Safe. -/
  | stop (pcOp : Word)
  deriving DecidableEq, Repr

/-- Reasons to give no meaning at all. Every instruction of the table has its meaning, so nothing
answers one. -/
inductive Refusal where
  /-- Would be answered by an arm of `exec` for an instruction without a meaning; no arm does. Safe. -/
  | notModelled (mnemonic : String)
  deriving DecidableEq, Repr

/-- The seven general registers (R20). The pairs BC, DE, HL are views of them (R22), in
`Machine/Ops.lean`. -/
structure Regs where
  a : Byte
  b : Byte
  c : Byte
  d : Byte
  e : Byte
  h : Byte
  l : Byte
  deriving DecidableEq, Repr

/-- The flag register F, which stores four bits (R21): Z, N, Hf, Cf in bits 7 to 4. Bits 3 to 0 are
hard-wired to zero and have no storage; `Flags.toByte` and `Flags.ofByte` are its reads and writes
as a byte. -/
structure Flags where
  z : Bool
  n : Bool
  h : Bool
  c : Bool
  deriving DecidableEq, Repr

/-- What the memory bus owns (R28 to R31): six byte arrays, the serial pair, the boot-ROM-enabled
latch, and the bytes emitted so far to the diagnostic output. -/
structure Bus where
  boot       : Memory
  cart       : Memory
  vram       : Memory
  wram       : Memory
  io         : Memory
  hram       : Memory
  serialData : Byte
  serialCtrl : Byte
  bootEn     : Bool
  serialOut  : List Byte
  deriving DecidableEq, Repr

/-- The state of the block (10_state.md, section 1); there is no other (R35). -/
structure State where
  regs  : Regs
  f     : Flags
  sp    : Word
  pc    : Word
  bus   : Bus
  fault : Option Fault
  deriving DecidableEq, Repr

/-- What the meaning of an instruction answers. -/
abbrev Result := Host.Outcome State Fault Refusal

/-- The bus at reset (R38, R39): the arrays and the serial pair from the parameters, the overlay on
exactly when the boot ROM is run, nothing emitted. -/
def Bus.resetWith (p : ResetParams) : Bus :=
  { boot := p.bootRom, cart := p.cartRom, vram := p.vramInit, wram := p.wramInit,
    io := p.ioInit, hram := p.hramInit, serialData := p.serialDataInit,
    serialCtrl := p.serialCtrlInit, bootEn := p.bootMode == .runBoot, serialOut := [] }

/-- Reset as a function of the parameters (R330): R36 for `SkipBoot`, R37 for `RunBoot`, R38, R39. -/
def State.resetWith (p : ResetParams) : State :=
  match p.bootMode with
  | .skipBoot =>
    { regs := { a := 0x01, b := 0x00, c := 0x13, d := 0x00, e := 0xD8, h := 0x01, l := 0x4D }
      f := { z := true, n := false, h := true, c := true }
      sp := 0xFFFE, pc := 0x0100, bus := Bus.resetWith p, fault := none }
  | .runBoot =>
    { regs := { a := 0x00, b := 0x00, c := 0x00, d := 0x00, e := 0x00, h := 0x00, l := 0x00 }
      f := { z := false, n := false, h := false, c := false }
      sp := 0x0000, pc := 0x0000, bus := Bus.resetWith p, fault := none }

/-- The machine right after reset, with the parameters of log 1. -/
def State.reset : State := State.resetWith Config.resetParams

end Sys2Proof.Machine
end

