-- ==== Sys2Proof/Machine/Ops.lean ====
section
/-! DEFINITION. The named operations over memory, the bus and the registers (20_memory.md,
10_state.md, R11), and raising a fault (R305). -/

namespace Sys2Proof.Machine

open Sys2Proof

/-! ### A byte array as a list of cells -/

/-- The byte at an index; a cell that is not listed reads as `unlisted`. -/
def Memory.load : Memory → Nat → Byte
  | [], _ => unlisted
  | (k, v) :: m, i => if k = i then v else Memory.load m i

/-- Drops the entry for an index. -/
def Memory.erase : Memory → Nat → Memory
  | [], _ => []
  | (k, v) :: m, i => if k = i then Memory.erase m i else (k, v) :: Memory.erase m i

/-- Puts an entry in its place by index. -/
def Memory.insert : Memory → Nat → Byte → Memory
  | [], i, v => [(i, v)]
  | (k, w) :: m, i, v => if i < k then (i, v) :: (k, w) :: m else (k, w) :: Memory.insert m i v

/-- Stores a byte, keeping the canonical form: storing what an unlisted cell reads as removes the
entry. -/
def Memory.store (m : Memory) (i : Nat) (v : Byte) : Memory :=
  if v = unlisted then Memory.erase m i else Memory.insert (Memory.erase m i) i v

/-- The indexes are at least `lo`, below `size` and strictly rising, and no entry is `unlisted`. -/
def Memory.wfFrom (size : Nat) : Nat → Memory → Bool
  | _, [] => true
  | lo, (k, v) :: m =>
    decide (lo ≤ k) && decide (k < size) && decide (v ≠ unlisted) && Memory.wfFrom size (k + 1) m

/-- The canonical form of an array of `size` bytes. -/
def Memory.wf (size : Nat) (m : Memory) : Bool := Memory.wfFrom size 0 m

/-- Every array of the bus is in canonical form, at its size of R28. -/
def Bus.wf (b : Bus) : Bool :=
  Memory.wf 256 b.boot && Memory.wf 32768 b.cart && Memory.wf 8192 b.vram &&
  Memory.wf 8192 b.wram && Memory.wf 128 b.io && Memory.wf 127 b.hram

/-- Every array of the parameters is in canonical form, at its size of R4. -/
def ResetParams.wf (p : ResetParams) : Bool := Bus.wf (Bus.resetWith p)

/-! ### Resolution of an address (R51) -/

/-- What an address resolves to: a cell of an array, by its index, or one of the other targets of the
table of R51. -/
inductive Target where
  | boot (i : Nat)
  | cart (i : Nat)
  | vram (i : Nat)
  | wram (i : Nat)
  | io (i : Nat)
  | hram (i : Nat)
  | serialData
  | serialCtrl
  | lcdLine
  | bootLatch
  | unmapped
  deriving DecidableEq, Repr

/-- `Resolve(addr)`: the cases of the table of R51, from top to bottom, the first that matches wins. -/
def resolve (bootEn : Bool) (addr : Word) : Target :=
  let a := addr.toNat
  if a ≤ 0x00FF ∧ bootEn = true then .boot a
  else if a ≤ 0x7FFF then .cart a
  else if a ≤ 0x9FFF then .vram (a - 0x8000)
  else if a ≤ 0xBFFF then .unmapped
  else if a ≤ 0xDFFF then .wram (a - 0xC000)
  else if a ≤ 0xFDFF then .wram (a - 0xE000)
  else if a ≤ 0xFEFF then .unmapped
  else if a = 0xFF01 then .serialData
  else if a = 0xFF02 then .serialCtrl
  else if a = 0xFF44 then .lcdLine
  else if a = 0xFF50 then .bootLatch
  else if a ≤ 0xFF7F then .io (a - 0xFF00)
  else if a ≤ 0xFFFE then .hram (a - 0xFF80)
  else .unmapped

/-- What a read of a target returns (R52, R58, R61, R62). -/
def Bus.readTarget (b : Bus) : Target → Byte
  | .boot i => Memory.load b.boot i
  | .cart i => Memory.load b.cart i
  | .vram i => Memory.load b.vram i
  | .wram i => Memory.load b.wram i
  | .io i => Memory.load b.io i
  | .hram i => Memory.load b.hram i
  | .serialData => b.serialData
  | .serialCtrl => b.serialCtrl
  | .lcdLine => 0x90
  | .bootLatch => 0x00
  | .unmapped => 0x00

/-- A write of the serial control register (R60): the byte is stored, and 0x81 emits the current
serial data. -/
def Bus.writeSerialCtrl (b : Bus) (v : Byte) : Bus :=
  if v = 0x81 then { b with serialCtrl := v, serialOut := b.serialOut ++ [b.serialData] }
  else { b with serialCtrl := v }

/-- What a write of a target does (R53, R58, R60, R61, R62, R65). -/
def Bus.writeTarget (b : Bus) (t : Target) (v : Byte) : Bus :=
  match t with
  | .boot i => { b with boot := Memory.store b.boot i v }
  | .cart i => { b with cart := Memory.store b.cart i v }
  | .vram i => { b with vram := Memory.store b.vram i v }
  | .wram i => { b with wram := Memory.store b.wram i v }
  | .io i => { b with io := Memory.store b.io i v }
  | .hram i => { b with hram := Memory.store b.hram i v }
  | .serialData => { b with serialData := v }
  | .serialCtrl => b.writeSerialCtrl v
  | .lcdLine => b
  | .bootLatch => { b with bootEn := false }
  | .unmapped => b

/-- `MemRead(addr, 1)` (R52). -/
def Bus.read8 (b : Bus) (addr : Word) : Byte := b.readTarget (resolve b.bootEn addr)

/-- `MemWrite(addr, 1, v)` (R53). -/
def Bus.write8 (b : Bus) (addr : Word) (v : Byte) : Bus := b.writeTarget (resolve b.bootEn addr) v

/-- `MemRead(addr, 2)` (R66): little-endian, each byte resolved on its own, the address wrapping. -/
def Bus.read16 (b : Bus) (addr : Word) : Word := joinBytes (b.read8 (addr + 1)) (b.read8 addr)

/-- `MemWrite(addr, 2, v)` (R67): the low byte first, then the high byte. -/
def Bus.write16 (b : Bus) (addr : Word) (v : Word) : Bus :=
  (b.write8 addr (loByte v)).write8 (addr + 1) (hiByte v)

/-! ### The same through the state -/

/-- The byte at an address. -/
def State.read8 (s : State) (addr : Word) : Byte := s.bus.read8 addr

/-- The 16-bit value at an address. -/
def State.read16 (s : State) (addr : Word) : Word := s.bus.read16 addr

/-- Stores a byte. -/
def State.write8 (s : State) (addr : Word) (v : Byte) : State :=
  { s with bus := s.bus.write8 addr v }

/-- Stores a 16-bit value. -/
def State.write16 (s : State) (addr : Word) (v : Word) : State :=
  { s with bus := s.bus.write16 addr v }

/-! ### Registers, pairs and flags (R20 to R26) -/

/-- `x[r]` (R8). -/
def Regs.get (g : Regs) : Reg8 → Byte
  | .a => g.a | .b => g.b | .c => g.c | .d => g.d | .e => g.e | .h => g.h | .l => g.l

/-- `x[r] <- v` (R8). -/
def Regs.set (g : Regs) (r : Reg8) (v : Byte) : Regs :=
  match r with
  | .a => { g with a := v }
  | .b => { g with b := v }
  | .c => { g with c := v }
  | .d => { g with d := v }
  | .e => { g with e := v }
  | .h => { g with h := v }
  | .l => { g with l := v }

/-- The view BC (R22). -/
def Regs.bc (g : Regs) : Word := joinBytes g.b g.c

/-- The view DE (R22). -/
def Regs.de (g : Regs) : Word := joinBytes g.d g.e

/-- The view HL (R22). -/
def Regs.hl (g : Regs) : Word := joinBytes g.h g.l

/-- `BC <- v` (R22). -/
def Regs.setBC (g : Regs) (v : Word) : Regs := { g with b := hiByte v, c := loByte v }

/-- `DE <- v` (R22). -/
def Regs.setDE (g : Regs) (v : Word) : Regs := { g with d := hiByte v, e := loByte v }

/-- `HL <- v` (R22). -/
def Regs.setHL (g : Regs) (v : Word) : Regs := { g with h := hiByte v, l := loByte v }

/-- F read as a byte (R21): Z, N, Hf, Cf in bits 7 to 4, and zeros. -/
def Flags.toByte (f : Flags) : Byte :=
  BitVec.ofNat 8 (128 * f.z.toNat + 64 * f.n.toNat + 32 * f.h.toNat + 16 * f.c.toNat)

/-- A byte written to F (R21): bits 3 to 0 are discarded. -/
def Flags.ofByte (v : Byte) : Flags :=
  { z := v.getLsbD 7, n := v.getLsbD 6, h := v.getLsbD 5, c := v.getLsbD 4 }

/-- `x[r]` through the state. -/
def State.getReg (s : State) (r : Reg8) : Byte := s.regs.get r

/-- `x[r] <- v` through the state. -/
def State.setReg (s : State) (r : Reg8) (v : Byte) : State := { s with regs := s.regs.set r v }

/-- HL through the state. -/
def State.hl (s : State) : Word := s.regs.hl

/-- `HL <- v` through the state. -/
def State.setHL (s : State) (v : Word) : State := { s with regs := s.regs.setHL v }

/-- `flags <- (z, n, h, c)` (R8). -/
def State.setFlags (s : State) (f : Flags) : State := { s with f := f }

/-- `SP <- v` (R25). -/
def State.setSP (s : State) (v : Word) : State := { s with sp := v }

/-- `pc <- v` (R26). -/
def State.setPC (s : State) (v : Word) : State := { s with pc := v }

/-- `rp[p]` (R23). -/
def State.getRp (s : State) : Rp → Word
  | .bc => s.regs.bc
  | .de => s.regs.de
  | .hl => s.regs.hl
  | .sp => s.sp

/-- `rp[p] <- v` (R23). -/
def State.setRp (s : State) (p : Rp) (v : Word) : State :=
  match p with
  | .bc => { s with regs := s.regs.setBC v }
  | .de => { s with regs := s.regs.setDE v }
  | .hl => { s with regs := s.regs.setHL v }
  | .sp => { s with sp := v }

/-- `rp2[p]` (R23); AF is the accumulator and F as a byte (R22). -/
def State.getRp2 (s : State) : Rp2 → Word
  | .bc => s.regs.bc
  | .de => s.regs.de
  | .hl => s.regs.hl
  | .af => joinBytes s.regs.a s.f.toByte

/-- `rp2[p] <- v` (R23); a write to AF writes F through its mask (R22, R282). -/
def State.setRp2 (s : State) (p : Rp2) (v : Word) : State :=
  match p with
  | .bc => { s with regs := s.regs.setBC v }
  | .de => { s with regs := s.regs.setDE v }
  | .hl => { s with regs := s.regs.setHL v }
  | .af => { s with regs := s.regs.set .a (hiByte v), f := Flags.ofByte (loByte v) }

/-! ### The stack (R11) -/

/-- `Push16(v)`: SP moves down by 2, then the value is stored at the new SP. -/
def State.push16 (s : State) (v : Word) : State := (s.setSP (s.sp - 2)).write16 (s.sp - 2) v

/-- The value `Pop16()` returns: the one at SP, read before SP moves. -/
def State.top16 (s : State) : Word := s.read16 s.sp

/-- The state `Pop16()` leaves: SP up by 2. -/
def State.drop16 (s : State) : State := s.setSP (s.sp + 2)

/-! ### Taking a fault (R305). There is no trap entry, no saved state and no handler (R309), and no
return from a fault (R310): only reset clears the latch. -/

/-- Raises a fault (R305). The state is the one before the Step, with pc back at the address `pc_op`
of the offending byte (the one byte that was fetched), and the fault latch holds the record. In the
state this leaves no further Step is taken: `step` answers the latched fault. -/
def raiseFault (record : Word → Fault) (s : State) : Result :=
  .next { s with pc := s.pc - 1, fault := some (record (s.pc - 1)) }

end Sys2Proof.Machine
end

