-- ==== Sys2Proof/Machine/Flags.lean ====
section
/-! DEFINITION. The arithmetic, logic, rotate and shift primitives with the flags they compute
(R170 to R174, R203, R214, R215, R220 to R227). As in R7, sums and comparisons are over the
numbers and the result is narrowed at the end. -/

namespace Sys2Proof.Machine

open Sys2Proof

/-- The low four bits as a number: `v & 0x0F`. -/
def lowNibble (v : Byte) : Nat := (v &&& 0x0F).toNat

/-- `add8(a, b, cin)` (R170). -/
def add8 (a b : Byte) (cin : Bool) : Byte × Flags :=
  let sum := a.toNat + b.toNat + cin.toNat
  let res := BitVec.ofNat 8 sum
  (res, { z := res == 0, n := false,
          h := decide (lowNibble a + lowNibble b + cin.toNat > 0x0F), c := decide (sum > 0xFF) })

/-- `sub8(a, b, bin)` (R171): Hf and Cf are borrows. -/
def sub8 (a b : Byte) (bin : Bool) : Byte × Flags :=
  let res := a - b - BitVec.ofNat 8 bin.toNat
  (res, { z := res == 0, n := true,
          h := decide (lowNibble a < lowNibble b + bin.toNat),
          c := decide (a.toNat < b.toNat + bin.toNat) })

/-- `and8(a, b)` (R172). -/
def and8 (a b : Byte) : Byte × Flags :=
  (a &&& b, { z := a &&& b == 0, n := false, h := true, c := false })

/-- `xor8(a, b)` (R173). -/
def xor8 (a b : Byte) : Byte × Flags :=
  (a ^^^ b, { z := a ^^^ b == 0, n := false, h := false, c := false })

/-- `or8(a, b)` (R174). -/
def or8 (a b : Byte) : Byte × Flags :=
  (a ||| b, { z := a ||| b == 0, n := false, h := false, c := false })

/-- The result and flags of an accumulator operation on A = `a`, the operand `v` and the old Cf
(R175 to R198). For CP the byte is not stored. -/
def aluResult (op : AluOp) (a v : Byte) (cf : Bool) : Byte × Flags :=
  match op with
  | .add => add8 a v false
  | .adc => add8 a v cf
  | .sub => sub8 a v false
  | .sbc => sub8 a v cf
  | .and => and8 a v
  | .xor => xor8 a v
  | .or => or8 a v
  | .cp => sub8 a v false

/-- The result and flags of INC (R199): `add8(v, 1, 0)` with the old Cf kept. -/
def incResult (v : Byte) (f : Flags) : Byte × Flags :=
  let r := add8 v 1 false
  (r.1, { r.2 with c := f.c })

/-- The result and flags of DEC (R201): `sub8(v, 1, 0)` with the old Cf kept. -/
def decResult (v : Byte) (f : Flags) : Byte × Flags :=
  let r := sub8 v 1 false
  (r.1, { r.2 with c := f.c })

/-- The result and flags of DAA (R203). The 0x60 does not change the low nibble, so both tests of the
additive path may be made on the old A. -/
def daaResult (a : Byte) (f : Flags) : Byte × Flags :=
  if f.n = false then
    let high := f.c || decide (a.toNat > 0x99)
    let low := f.h || decide (lowNibble a > 0x09)
    let res := a + (if high then 0x60 else 0x00) + (if low then 0x06 else 0x00)
    (res, { z := res == 0, n := f.n, h := false, c := high })
  else
    let res := a - (if f.c then 0x60 else 0x00) - (if f.h then 0x06 else 0x00)
    (res, { z := res == 0, n := f.n, h := false, c := f.c })

/-- `addsp16(sp, e)` with the flags its two callers write (R214): the carries are those of the low
byte of SP and `e` read as unsigned; Z and N are 0. -/
def addsp16 (sp : Word) (e : Byte) : Word × Flags :=
  (sp + signExtend16 e,
    { z := false, n := false,
      h := decide ((sp &&& 0x000F).toNat + lowNibble e > 0x0F),
      c := decide ((sp &&& 0x00FF).toNat + e.toNat > 0xFF) })

/-- The sum and flags of `ADD HL,rr` (R215): Hf out of bit 11, Cf out of bit 15, Z kept. -/
def addHL16 (a b : Word) (f : Flags) : Word × Flags :=
  (a + b,
    { z := f.z, n := false,
      h := decide ((a &&& 0x0FFF).toNat + (b &&& 0x0FFF).toNat > 0x0FFF),
      c := decide (a.toNat + b.toNat > 0xFFFF) })

/-- A bit as a byte, in position 0. -/
def bitByte (c : Bool) : Byte := BitVec.ofNat 8 c.toNat

/-- `rlc8(v)` (R220). -/
def rlc8 (v : Byte) : Byte × Bool := ((v <<< 1) ||| bitByte (v.getLsbD 7), v.getLsbD 7)

/-- `rrc8(v)` (R221). -/
def rrc8 (v : Byte) : Byte × Bool := ((v >>> 1) ||| (bitByte (v.getLsbD 0) <<< 7), v.getLsbD 0)

/-- `rl8(v, cin)` (R222). -/
def rl8 (v : Byte) (cin : Bool) : Byte × Bool := ((v <<< 1) ||| bitByte cin, v.getLsbD 7)

/-- `rr8(v, cin)` (R223). -/
def rr8 (v : Byte) (cin : Bool) : Byte × Bool := ((v >>> 1) ||| (bitByte cin <<< 7), v.getLsbD 0)

/-- `sla8(v)` (R224). -/
def sla8 (v : Byte) : Byte × Bool := (v <<< 1, v.getLsbD 7)

/-- `sra8(v)` (R225). -/
def sra8 (v : Byte) : Byte × Bool := ((v >>> 1) ||| (v &&& 0x80), v.getLsbD 0)

/-- `swap8(v)` (R226). -/
def swap8 (v : Byte) : Byte × Bool := ((v <<< 4) ||| (v >>> 4), false)

/-- `srl8(v)` (R227). -/
def srl8 (v : Byte) : Byte × Bool := (v >>> 1, v.getLsbD 0)

/-- The byte and carry-out of a CB-prefixed rotate or shift (R232 to R247). -/
def rotResult (op : RotOp) (v : Byte) (cf : Bool) : Byte × Bool :=
  match op with
  | .rlc => rlc8 v
  | .rrc => rrc8 v
  | .rl => rl8 v cf
  | .rr => rr8 v cf
  | .sla => sla8 v
  | .sra => sra8 v
  | .swap => swap8 v
  | .srl => srl8 v

/-- The byte and carry-out of an accumulator rotate (R228 to R231). -/
def accRotResult (k : AccRot) (v : Byte) (cf : Bool) : Byte × Bool :=
  match k with
  | .rlca => rlc8 v
  | .rrca => rrc8 v
  | .rla => rl8 v cf
  | .rra => rr8 v cf

end Sys2Proof.Machine
end

