-- ==== Sys2Proof/Machine/Operands.lean ====
section
/-! DEFINITION. The operand forms: an 8-bit operand that is a register or the byte at HL (R24), the
addresses of the indirect and I/O-page forms, a single bit of an operand (R100), the condition
(R260), and the restart address (R99). Immediates come with the decoded instruction (R96 to R98). -/

namespace Sys2Proof.Machine

open Sys2Proof

/-- Reads an 8-bit operand (R93): a register, or the byte at the address in HL. -/
def State.readOperand (s : State) : Operand8 → Byte
  | .reg r => s.getReg r
  | .atHL => s.read8 s.hl

/-- Writes an 8-bit operand (R93). -/
def State.writeOperand (s : State) (o : Operand8) (v : Byte) : State :=
  match o with
  | .reg r => s.setReg r v
  | .atHL => s.write8 s.hl v

/-- The address of an indirect load or store of A (R135 to R142); the HL forms use the old HL. -/
def State.indirectAddr (s : State) : Indirect → Word
  | .bc => s.regs.bc
  | .de => s.regs.de
  | .hlInc => s.hl
  | .hlDec => s.hl

/-- The update of HL that follows an indirect access (R137, R138, R141, R142). -/
def State.indirectUpdate (s : State) : Indirect → State
  | .bc => s
  | .de => s
  | .hlInc => s.setHL (s.hl + 1)
  | .hlDec => s.setHL (s.hl - 1)

/-- `0xFF00 + n` (R143 to R146). -/
def ffPage (n : Byte) : Word := joinBytes 0xFF n

/-- The byte with only bit `b` set: `1 << b` (R250). -/
def bitMask (b : BitIdx) : Byte := BitVec.ofNat 8 (2 ^ b.index)

/-- `v[b]` (R100). -/
def bitOf (v : Byte) (b : BitIdx) : Bool := v.getLsbD b.index

/-- `cond(cc)` (R260). -/
def condHolds (f : Flags) : Cond → Bool
  | .nz => !f.z
  | .z => f.z
  | .nc => !f.c
  | .c => f.c

/-- The target of a restart: `8 * t` (R99, R271). -/
def rstTarget (t : RstVec) : Word := BitVec.ofNat 16 (8 * t.index)

/-- The target of a relative jump from the pc after the offset byte (R264). -/
def relTarget (pc : Word) (e : Byte) : Word := pc + signExtend16 e

end Sys2Proof.Machine
end

