-- ==== Sys2Proof/Machine/Alu16.lean ====
section
/-! DEFINITION. The 16-bit arithmetic (43_alu16.md). -/

namespace Sys2Proof.Machine

open Sys2Proof

/-- `ADD HL,rr` (R215). -/
def addHLPair (p : Rp) (s : State) : Result :=
  let r := addHL16 s.hl (s.getRp p) s.f
  .next ((s.setHL r.1).setFlags r.2)

/-- `ADD SP,e` (R216). -/
def addSPImm (e : Byte) (s : State) : Result :=
  .next ((s.setSP (addsp16 s.sp e).1).setFlags (addsp16 s.sp e).2)

/-- `INC rr` (R217): no flag is written. -/
def incPair (p : Rp) (s : State) : Result := .next (s.setRp p (s.getRp p + 1))

/-- `DEC rr` (R218): no flag is written. -/
def decPair (p : Rp) (s : State) : Result := .next (s.setRp p (s.getRp p - 1))

/-- INC_BC, 03 (R217). -/
def execInc_BC (s : State) : Result := incPair .bc s

/-- ADD_HL_BC, 09 (R215). -/
def execAdd_HL_BC (s : State) : Result := addHLPair .bc s

/-- DEC_BC, 0B (R218). -/
def execDec_BC (s : State) : Result := decPair .bc s

/-- INC_DE, 13 (R217). -/
def execInc_DE (s : State) : Result := incPair .de s

/-- ADD_HL_DE, 19 (R215). -/
def execAdd_HL_DE (s : State) : Result := addHLPair .de s

/-- DEC_DE, 1B (R218). -/
def execDec_DE (s : State) : Result := decPair .de s

/-- INC_HL, 23 (R217). -/
def execInc_HL (s : State) : Result := incPair .hl s

/-- ADD_HL_HL, 29 (R215). -/
def execAdd_HL_HL (s : State) : Result := addHLPair .hl s

/-- DEC_HL, 2B (R218). -/
def execDec_HL (s : State) : Result := decPair .hl s

/-- INC_SP, 33 (R217). -/
def execInc_SP (s : State) : Result := incPair .sp s

/-- ADD_HL_SP, 39 (R215). -/
def execAdd_HL_SP (s : State) : Result := addHLPair .sp s

/-- DEC_SP, 3B (R218). -/
def execDec_SP (s : State) : Result := decPair .sp s

/-- ADD_SP_e, E8 (R216). -/
def execAdd_SP_e (e : Byte) (s : State) : Result := addSPImm e s

end Sys2Proof.Machine
end

