-- ==== Sys2Proof/Machine/Alu8.lean ====
section
/-! DEFINITION. The 8-bit arithmetic and logic (42_alu8.md). -/

namespace Sys2Proof.Machine

open Sys2Proof

/-- An accumulator operation with the value of its operand (R175 to R198): the flags are written, and
A is too, except by CP (R196). -/
def aluValue (op : AluOp) (v : Byte) (s : State) : Result :=
  let r := aluResult op s.regs.a v s.f.c
  match op with
  | .cp => .next (s.setFlags r.2)
  | _ => .next ((s.setReg .a r.1).setFlags r.2)

/-- The register and `(HL)` forms of the eight accumulator operations. -/
def aluOperand (op : AluOp) (o : Operand8) (s : State) : Result := aluValue op (s.readOperand o) s

/-- The immediate forms of the eight accumulator operations. -/
def aluImm (op : AluOp) (n : Byte) (s : State) : Result := aluValue op n s

/-- INC of an 8-bit operand (R199, R200): Cf is kept. -/
def incOp (o : Operand8) (s : State) : Result :=
  let r := incResult (s.readOperand o) s.f
  .next ((s.writeOperand o r.1).setFlags r.2)

/-- DEC of an 8-bit operand (R201, R202): Cf is kept. -/
def decOp (o : Operand8) (s : State) : Result :=
  let r := decResult (s.readOperand o) s.f
  .next ((s.writeOperand o r.1).setFlags r.2)

/-- DAA (R203). -/
def daa (s : State) : Result :=
  .next ((s.setReg .a (daaResult s.regs.a s.f).1).setFlags (daaResult s.regs.a s.f).2)

/-- CPL (R204): Z and Cf are kept. -/
def cpl (s : State) : Result :=
  .next ((s.setReg .a (~~~s.regs.a)).setFlags { s.f with n := true, h := true })

/-- SCF (R205): Z is kept. -/
def scf (s : State) : Result := .next (s.setFlags { s.f with n := false, h := false, c := true })

/-- CCF (R206): Z is kept. -/
def ccf (s : State) : Result := .next (s.setFlags { s.f with n := false, h := false, c := !s.f.c })

/-- INC_B, 04 (R199). -/
def execInc_B (s : State) : Result := incOp (.reg .b) s

/-- DEC_B, 05 (R201). -/
def execDec_B (s : State) : Result := decOp (.reg .b) s

/-- INC_C, 0C (R199). -/
def execInc_C (s : State) : Result := incOp (.reg .c) s

/-- DEC_C, 0D (R201). -/
def execDec_C (s : State) : Result := decOp (.reg .c) s

/-- INC_D, 14 (R199). -/
def execInc_D (s : State) : Result := incOp (.reg .d) s

/-- DEC_D, 15 (R201). -/
def execDec_D (s : State) : Result := decOp (.reg .d) s

/-- INC_E, 1C (R199). -/
def execInc_E (s : State) : Result := incOp (.reg .e) s

/-- DEC_E, 1D (R201). -/
def execDec_E (s : State) : Result := decOp (.reg .e) s

/-- INC_H, 24 (R199). -/
def execInc_H (s : State) : Result := incOp (.reg .h) s

/-- DEC_H, 25 (R201). -/
def execDec_H (s : State) : Result := decOp (.reg .h) s

/-- DAA, 27 (R203). -/
def execDaa (s : State) : Result := daa s

/-- INC_L, 2C (R199). -/
def execInc_L (s : State) : Result := incOp (.reg .l) s

/-- DEC_L, 2D (R201). -/
def execDec_L (s : State) : Result := decOp (.reg .l) s

/-- CPL, 2F (R204). -/
def execCpl (s : State) : Result := cpl s

/-- INC__HL, 34 (R200). -/
def execInc_atHL (s : State) : Result := incOp .atHL s

/-- DEC__HL, 35 (R202). -/
def execDec_atHL (s : State) : Result := decOp .atHL s

/-- SCF, 37 (R205). -/
def execScf (s : State) : Result := scf s

/-- INC_A, 3C (R199). -/
def execInc_A (s : State) : Result := incOp (.reg .a) s

/-- DEC_A, 3D (R201). -/
def execDec_A (s : State) : Result := decOp (.reg .a) s

/-- CCF, 3F (R206). -/
def execCcf (s : State) : Result := ccf s

/-- ADD_A_B, 80 (R175). -/
def execAdd_A_B (s : State) : Result := aluOperand .add (.reg .b) s

/-- ADD_A_C, 81 (R175). -/
def execAdd_A_C (s : State) : Result := aluOperand .add (.reg .c) s

/-- ADD_A_D, 82 (R175). -/
def execAdd_A_D (s : State) : Result := aluOperand .add (.reg .d) s

/-- ADD_A_E, 83 (R175). -/
def execAdd_A_E (s : State) : Result := aluOperand .add (.reg .e) s

/-- ADD_A_H, 84 (R175). -/
def execAdd_A_H (s : State) : Result := aluOperand .add (.reg .h) s

/-- ADD_A_L, 85 (R175). -/
def execAdd_A_L (s : State) : Result := aluOperand .add (.reg .l) s

/-- ADD_A__HL, 86 (R176). -/
def execAdd_A_atHL (s : State) : Result := aluOperand .add .atHL s

/-- ADD_A_A, 87 (R175). -/
def execAdd_A_A (s : State) : Result := aluOperand .add (.reg .a) s

/-- ADC_A_B, 88 (R178). -/
def execAdc_A_B (s : State) : Result := aluOperand .adc (.reg .b) s

/-- ADC_A_C, 89 (R178). -/
def execAdc_A_C (s : State) : Result := aluOperand .adc (.reg .c) s

/-- ADC_A_D, 8A (R178). -/
def execAdc_A_D (s : State) : Result := aluOperand .adc (.reg .d) s

/-- ADC_A_E, 8B (R178). -/
def execAdc_A_E (s : State) : Result := aluOperand .adc (.reg .e) s

/-- ADC_A_H, 8C (R178). -/
def execAdc_A_H (s : State) : Result := aluOperand .adc (.reg .h) s

/-- ADC_A_L, 8D (R178). -/
def execAdc_A_L (s : State) : Result := aluOperand .adc (.reg .l) s

/-- ADC_A__HL, 8E (R179). -/
def execAdc_A_atHL (s : State) : Result := aluOperand .adc .atHL s

/-- ADC_A_A, 8F (R178). -/
def execAdc_A_A (s : State) : Result := aluOperand .adc (.reg .a) s

/-- SUB_B, 90 (R181). -/
def execSub_B (s : State) : Result := aluOperand .sub (.reg .b) s

/-- SUB_C, 91 (R181). -/
def execSub_C (s : State) : Result := aluOperand .sub (.reg .c) s

/-- SUB_D, 92 (R181). -/
def execSub_D (s : State) : Result := aluOperand .sub (.reg .d) s

/-- SUB_E, 93 (R181). -/
def execSub_E (s : State) : Result := aluOperand .sub (.reg .e) s

/-- SUB_H, 94 (R181). -/
def execSub_H (s : State) : Result := aluOperand .sub (.reg .h) s

/-- SUB_L, 95 (R181). -/
def execSub_L (s : State) : Result := aluOperand .sub (.reg .l) s

/-- SUB__HL, 96 (R182). -/
def execSub_atHL (s : State) : Result := aluOperand .sub .atHL s

/-- SUB_A, 97 (R181). -/
def execSub_A (s : State) : Result := aluOperand .sub (.reg .a) s

/-- SBC_A_B, 98 (R184). -/
def execSbc_A_B (s : State) : Result := aluOperand .sbc (.reg .b) s

/-- SBC_A_C, 99 (R184). -/
def execSbc_A_C (s : State) : Result := aluOperand .sbc (.reg .c) s

/-- SBC_A_D, 9A (R184). -/
def execSbc_A_D (s : State) : Result := aluOperand .sbc (.reg .d) s

/-- SBC_A_E, 9B (R184). -/
def execSbc_A_E (s : State) : Result := aluOperand .sbc (.reg .e) s

/-- SBC_A_H, 9C (R184). -/
def execSbc_A_H (s : State) : Result := aluOperand .sbc (.reg .h) s

/-- SBC_A_L, 9D (R184). -/
def execSbc_A_L (s : State) : Result := aluOperand .sbc (.reg .l) s

/-- SBC_A__HL, 9E (R185). -/
def execSbc_A_atHL (s : State) : Result := aluOperand .sbc .atHL s

/-- SBC_A_A, 9F (R184). -/
def execSbc_A_A (s : State) : Result := aluOperand .sbc (.reg .a) s

/-- AND_B, A0 (R187). -/
def execAnd_B (s : State) : Result := aluOperand .and (.reg .b) s

/-- AND_C, A1 (R187). -/
def execAnd_C (s : State) : Result := aluOperand .and (.reg .c) s

/-- AND_D, A2 (R187). -/
def execAnd_D (s : State) : Result := aluOperand .and (.reg .d) s

/-- AND_E, A3 (R187). -/
def execAnd_E (s : State) : Result := aluOperand .and (.reg .e) s

/-- AND_H, A4 (R187). -/
def execAnd_H (s : State) : Result := aluOperand .and (.reg .h) s

/-- AND_L, A5 (R187). -/
def execAnd_L (s : State) : Result := aluOperand .and (.reg .l) s

/-- AND__HL, A6 (R188). -/
def execAnd_atHL (s : State) : Result := aluOperand .and .atHL s

/-- AND_A, A7 (R187). -/
def execAnd_A (s : State) : Result := aluOperand .and (.reg .a) s

/-- XOR_B, A8 (R190). -/
def execXor_B (s : State) : Result := aluOperand .xor (.reg .b) s

/-- XOR_C, A9 (R190). -/
def execXor_C (s : State) : Result := aluOperand .xor (.reg .c) s

/-- XOR_D, AA (R190). -/
def execXor_D (s : State) : Result := aluOperand .xor (.reg .d) s

/-- XOR_E, AB (R190). -/
def execXor_E (s : State) : Result := aluOperand .xor (.reg .e) s

/-- XOR_H, AC (R190). -/
def execXor_H (s : State) : Result := aluOperand .xor (.reg .h) s

/-- XOR_L, AD (R190). -/
def execXor_L (s : State) : Result := aluOperand .xor (.reg .l) s

/-- XOR__HL, AE (R191). -/
def execXor_atHL (s : State) : Result := aluOperand .xor .atHL s

/-- XOR_A, AF (R190). -/
def execXor_A (s : State) : Result := aluOperand .xor (.reg .a) s

/-- OR_B, B0 (R193). -/
def execOr_B (s : State) : Result := aluOperand .or (.reg .b) s

/-- OR_C, B1 (R193). -/
def execOr_C (s : State) : Result := aluOperand .or (.reg .c) s

/-- OR_D, B2 (R193). -/
def execOr_D (s : State) : Result := aluOperand .or (.reg .d) s

/-- OR_E, B3 (R193). -/
def execOr_E (s : State) : Result := aluOperand .or (.reg .e) s

/-- OR_H, B4 (R193). -/
def execOr_H (s : State) : Result := aluOperand .or (.reg .h) s

/-- OR_L, B5 (R193). -/
def execOr_L (s : State) : Result := aluOperand .or (.reg .l) s

/-- OR__HL, B6 (R194). -/
def execOr_atHL (s : State) : Result := aluOperand .or .atHL s

/-- OR_A, B7 (R193). -/
def execOr_A (s : State) : Result := aluOperand .or (.reg .a) s

/-- CP_B, B8 (R196). -/
def execCp_B (s : State) : Result := aluOperand .cp (.reg .b) s

/-- CP_C, B9 (R196). -/
def execCp_C (s : State) : Result := aluOperand .cp (.reg .c) s

/-- CP_D, BA (R196). -/
def execCp_D (s : State) : Result := aluOperand .cp (.reg .d) s

/-- CP_E, BB (R196). -/
def execCp_E (s : State) : Result := aluOperand .cp (.reg .e) s

/-- CP_H, BC (R196). -/
def execCp_H (s : State) : Result := aluOperand .cp (.reg .h) s

/-- CP_L, BD (R196). -/
def execCp_L (s : State) : Result := aluOperand .cp (.reg .l) s

/-- CP__HL, BE (R197). -/
def execCp_atHL (s : State) : Result := aluOperand .cp .atHL s

/-- CP_A, BF (R196). -/
def execCp_A (s : State) : Result := aluOperand .cp (.reg .a) s

/-- ADD_A_n, C6 (R177). -/
def execAdd_A_n (n : Byte) (s : State) : Result := aluImm .add n s

/-- ADC_A_n, CE (R180). -/
def execAdc_A_n (n : Byte) (s : State) : Result := aluImm .adc n s

/-- SUB_n, D6 (R183). -/
def execSub_n (n : Byte) (s : State) : Result := aluImm .sub n s

/-- SBC_A_n, DE (R186). -/
def execSbc_A_n (n : Byte) (s : State) : Result := aluImm .sbc n s

/-- AND_n, E6 (R189). -/
def execAnd_n (n : Byte) (s : State) : Result := aluImm .and n s

/-- XOR_n, EE (R192). -/
def execXor_n (n : Byte) (s : State) : Result := aluImm .xor n s

/-- OR_n, F6 (R195). -/
def execOr_n (n : Byte) (s : State) : Result := aluImm .or n s

/-- CP_n, FE (R198). -/
def execCp_n (n : Byte) (s : State) : Result := aluImm .cp n s

end Sys2Proof.Machine
end

