-- ==== Sys2Proof/Machine/Bits.lean ====
section
/-! DEFINITION. Rotates, shifts and bit operations (44_bitops.md), and the prefix byte (R101). -/

namespace Sys2Proof.Machine

open Sys2Proof

/-- RLCA, RRCA, RLA, RRA (R228 to R231): Z is 0 whatever the result is. -/
def rotAcc (k : AccRot) (s : State) : Result :=
  let r := accRotResult k s.regs.a s.f.c
  .next ((s.setReg .a r.1).setFlags { z := false, n := false, h := false, c := r.2 })

/-- A CB-prefixed rotate or shift (R232 to R247). -/
def rotShift (op : RotOp) (o : Operand8) (s : State) : Result :=
  let r := rotResult op (s.readOperand o) s.f.c
  .next ((s.writeOperand o r.1).setFlags { z := r.1 == 0, n := false, h := false, c := r.2 })

/-- `BIT b,r` and `BIT b,(HL)` (R248, R249): nothing but flags is written, and Cf is kept. -/
def bitTest (b : BitIdx) (o : Operand8) (s : State) : Result :=
  .next (s.setFlags { z := !bitOf (s.readOperand o) b, n := false, h := true, c := s.f.c })

/-- `RES b,r` and `RES b,(HL)` (R250, R251): the byte is written back even when it did not change. -/
def bitReset (b : BitIdx) (o : Operand8) (s : State) : Result :=
  .next (s.writeOperand o (s.readOperand o &&& ~~~bitMask b))

/-- `SET b,r` and `SET b,(HL)` (R252, R253): the byte is written back even when it did not change. -/
def bitSet (b : BitIdx) (o : Operand8) (s : State) : Result :=
  .next (s.writeOperand o (s.readOperand o ||| bitMask b))

/-- The operation of the CB second byte `cb` (R106). -/
def runCB (cb : Byte) (s : State) : Result :=
  match fieldBlk cb with
  | 0 => rotShift (rotOfIndex (fieldMid cb)) (operandOfIndex (fieldLow cb)) s
  | 1 => bitTest (bitOfIndex (fieldMid cb)) (operandOfIndex (fieldLow cb)) s
  | 2 => bitReset (bitOfIndex (fieldMid cb)) (operandOfIndex (fieldLow cb)) s
  | _ => bitSet (bitOfIndex (fieldMid cb)) (operandOfIndex (fieldLow cb)) s

/-- The prefix byte taken on its own, with pc at the byte after it (R101): `cb <- Fetch8()`, then the
operation of `cb`. `step` fetches the prefix and the second byte as one instruction and decodes them
to the row of the second byte; this meaning does the same from the prefix alone (log 5). -/
def prefixCB (s : State) : Result := runCB (s.read8 s.pc) (s.setPC (s.pc + 1))

/-- RLCA, 07 (R228). -/
def execRlca (s : State) : Result := rotAcc .rlca s

/-- RRCA, 0F (R229). -/
def execRrca (s : State) : Result := rotAcc .rrca s

/-- RLA, 17 (R230). -/
def execRla (s : State) : Result := rotAcc .rla s

/-- RRA, 1F (R231). -/
def execRra (s : State) : Result := rotAcc .rra s

/-- PREFIX_CB, CB (R101). -/
def execPrefix_CB (s : State) : Result := prefixCB s

/-- RLC_B, CB 00 (R232). -/
def execRlc_B (s : State) : Result := rotShift .rlc (.reg .b) s

/-- RLC_C, CB 01 (R232). -/
def execRlc_C (s : State) : Result := rotShift .rlc (.reg .c) s

/-- RLC_D, CB 02 (R232). -/
def execRlc_D (s : State) : Result := rotShift .rlc (.reg .d) s

/-- RLC_E, CB 03 (R232). -/
def execRlc_E (s : State) : Result := rotShift .rlc (.reg .e) s

/-- RLC_H, CB 04 (R232). -/
def execRlc_H (s : State) : Result := rotShift .rlc (.reg .h) s

/-- RLC_L, CB 05 (R232). -/
def execRlc_L (s : State) : Result := rotShift .rlc (.reg .l) s

/-- RLC__HL, CB 06 (R233). -/
def execRlc_atHL (s : State) : Result := rotShift .rlc .atHL s

/-- RLC_A, CB 07 (R232). -/
def execRlc_A (s : State) : Result := rotShift .rlc (.reg .a) s

/-- RRC_B, CB 08 (R234). -/
def execRrc_B (s : State) : Result := rotShift .rrc (.reg .b) s

/-- RRC_C, CB 09 (R234). -/
def execRrc_C (s : State) : Result := rotShift .rrc (.reg .c) s

/-- RRC_D, CB 0A (R234). -/
def execRrc_D (s : State) : Result := rotShift .rrc (.reg .d) s

/-- RRC_E, CB 0B (R234). -/
def execRrc_E (s : State) : Result := rotShift .rrc (.reg .e) s

/-- RRC_H, CB 0C (R234). -/
def execRrc_H (s : State) : Result := rotShift .rrc (.reg .h) s

/-- RRC_L, CB 0D (R234). -/
def execRrc_L (s : State) : Result := rotShift .rrc (.reg .l) s

/-- RRC__HL, CB 0E (R235). -/
def execRrc_atHL (s : State) : Result := rotShift .rrc .atHL s

/-- RRC_A, CB 0F (R234). -/
def execRrc_A (s : State) : Result := rotShift .rrc (.reg .a) s

/-- RL_B, CB 10 (R236). -/
def execRl_B (s : State) : Result := rotShift .rl (.reg .b) s

/-- RL_C, CB 11 (R236). -/
def execRl_C (s : State) : Result := rotShift .rl (.reg .c) s

/-- RL_D, CB 12 (R236). -/
def execRl_D (s : State) : Result := rotShift .rl (.reg .d) s

/-- RL_E, CB 13 (R236). -/
def execRl_E (s : State) : Result := rotShift .rl (.reg .e) s

/-- RL_H, CB 14 (R236). -/
def execRl_H (s : State) : Result := rotShift .rl (.reg .h) s

/-- RL_L, CB 15 (R236). -/
def execRl_L (s : State) : Result := rotShift .rl (.reg .l) s

/-- RL__HL, CB 16 (R237). -/
def execRl_atHL (s : State) : Result := rotShift .rl .atHL s

/-- RL_A, CB 17 (R236). -/
def execRl_A (s : State) : Result := rotShift .rl (.reg .a) s

/-- RR_B, CB 18 (R238). -/
def execRr_B (s : State) : Result := rotShift .rr (.reg .b) s

/-- RR_C, CB 19 (R238). -/
def execRr_C (s : State) : Result := rotShift .rr (.reg .c) s

/-- RR_D, CB 1A (R238). -/
def execRr_D (s : State) : Result := rotShift .rr (.reg .d) s

/-- RR_E, CB 1B (R238). -/
def execRr_E (s : State) : Result := rotShift .rr (.reg .e) s

/-- RR_H, CB 1C (R238). -/
def execRr_H (s : State) : Result := rotShift .rr (.reg .h) s

/-- RR_L, CB 1D (R238). -/
def execRr_L (s : State) : Result := rotShift .rr (.reg .l) s

/-- RR__HL, CB 1E (R239). -/
def execRr_atHL (s : State) : Result := rotShift .rr .atHL s

/-- RR_A, CB 1F (R238). -/
def execRr_A (s : State) : Result := rotShift .rr (.reg .a) s

/-- SLA_B, CB 20 (R240). -/
def execSla_B (s : State) : Result := rotShift .sla (.reg .b) s

/-- SLA_C, CB 21 (R240). -/
def execSla_C (s : State) : Result := rotShift .sla (.reg .c) s

/-- SLA_D, CB 22 (R240). -/
def execSla_D (s : State) : Result := rotShift .sla (.reg .d) s

/-- SLA_E, CB 23 (R240). -/
def execSla_E (s : State) : Result := rotShift .sla (.reg .e) s

/-- SLA_H, CB 24 (R240). -/
def execSla_H (s : State) : Result := rotShift .sla (.reg .h) s

/-- SLA_L, CB 25 (R240). -/
def execSla_L (s : State) : Result := rotShift .sla (.reg .l) s

/-- SLA__HL, CB 26 (R241). -/
def execSla_atHL (s : State) : Result := rotShift .sla .atHL s

/-- SLA_A, CB 27 (R240). -/
def execSla_A (s : State) : Result := rotShift .sla (.reg .a) s

/-- SRA_B, CB 28 (R242). -/
def execSra_B (s : State) : Result := rotShift .sra (.reg .b) s

/-- SRA_C, CB 29 (R242). -/
def execSra_C (s : State) : Result := rotShift .sra (.reg .c) s

/-- SRA_D, CB 2A (R242). -/
def execSra_D (s : State) : Result := rotShift .sra (.reg .d) s

/-- SRA_E, CB 2B (R242). -/
def execSra_E (s : State) : Result := rotShift .sra (.reg .e) s

/-- SRA_H, CB 2C (R242). -/
def execSra_H (s : State) : Result := rotShift .sra (.reg .h) s

/-- SRA_L, CB 2D (R242). -/
def execSra_L (s : State) : Result := rotShift .sra (.reg .l) s

/-- SRA__HL, CB 2E (R243). -/
def execSra_atHL (s : State) : Result := rotShift .sra .atHL s

/-- SRA_A, CB 2F (R242). -/
def execSra_A (s : State) : Result := rotShift .sra (.reg .a) s

/-- SWAP_B, CB 30 (R244). -/
def execSwap_B (s : State) : Result := rotShift .swap (.reg .b) s

/-- SWAP_C, CB 31 (R244). -/
def execSwap_C (s : State) : Result := rotShift .swap (.reg .c) s

/-- SWAP_D, CB 32 (R244). -/
def execSwap_D (s : State) : Result := rotShift .swap (.reg .d) s

/-- SWAP_E, CB 33 (R244). -/
def execSwap_E (s : State) : Result := rotShift .swap (.reg .e) s

/-- SWAP_H, CB 34 (R244). -/
def execSwap_H (s : State) : Result := rotShift .swap (.reg .h) s

/-- SWAP_L, CB 35 (R244). -/
def execSwap_L (s : State) : Result := rotShift .swap (.reg .l) s

/-- SWAP__HL, CB 36 (R245). -/
def execSwap_atHL (s : State) : Result := rotShift .swap .atHL s

/-- SWAP_A, CB 37 (R244). -/
def execSwap_A (s : State) : Result := rotShift .swap (.reg .a) s

/-- SRL_B, CB 38 (R246). -/
def execSrl_B (s : State) : Result := rotShift .srl (.reg .b) s

/-- SRL_C, CB 39 (R246). -/
def execSrl_C (s : State) : Result := rotShift .srl (.reg .c) s

/-- SRL_D, CB 3A (R246). -/
def execSrl_D (s : State) : Result := rotShift .srl (.reg .d) s

/-- SRL_E, CB 3B (R246). -/
def execSrl_E (s : State) : Result := rotShift .srl (.reg .e) s

/-- SRL_H, CB 3C (R246). -/
def execSrl_H (s : State) : Result := rotShift .srl (.reg .h) s

/-- SRL_L, CB 3D (R246). -/
def execSrl_L (s : State) : Result := rotShift .srl (.reg .l) s

/-- SRL__HL, CB 3E (R247). -/
def execSrl_atHL (s : State) : Result := rotShift .srl .atHL s

/-- SRL_A, CB 3F (R246). -/
def execSrl_A (s : State) : Result := rotShift .srl (.reg .a) s

/-- BIT_0_B, CB 40 (R248). -/
def execBit_0_B (s : State) : Result := bitTest .b0 (.reg .b) s

/-- BIT_0_C, CB 41 (R248). -/
def execBit_0_C (s : State) : Result := bitTest .b0 (.reg .c) s

/-- BIT_0_D, CB 42 (R248). -/
def execBit_0_D (s : State) : Result := bitTest .b0 (.reg .d) s

/-- BIT_0_E, CB 43 (R248). -/
def execBit_0_E (s : State) : Result := bitTest .b0 (.reg .e) s

/-- BIT_0_H, CB 44 (R248). -/
def execBit_0_H (s : State) : Result := bitTest .b0 (.reg .h) s

/-- BIT_0_L, CB 45 (R248). -/
def execBit_0_L (s : State) : Result := bitTest .b0 (.reg .l) s

/-- BIT_0__HL, CB 46 (R249). -/
def execBit_0_atHL (s : State) : Result := bitTest .b0 .atHL s

/-- BIT_0_A, CB 47 (R248). -/
def execBit_0_A (s : State) : Result := bitTest .b0 (.reg .a) s

/-- BIT_1_B, CB 48 (R248). -/
def execBit_1_B (s : State) : Result := bitTest .b1 (.reg .b) s

/-- BIT_1_C, CB 49 (R248). -/
def execBit_1_C (s : State) : Result := bitTest .b1 (.reg .c) s

/-- BIT_1_D, CB 4A (R248). -/
def execBit_1_D (s : State) : Result := bitTest .b1 (.reg .d) s

/-- BIT_1_E, CB 4B (R248). -/
def execBit_1_E (s : State) : Result := bitTest .b1 (.reg .e) s

/-- BIT_1_H, CB 4C (R248). -/
def execBit_1_H (s : State) : Result := bitTest .b1 (.reg .h) s

/-- BIT_1_L, CB 4D (R248). -/
def execBit_1_L (s : State) : Result := bitTest .b1 (.reg .l) s

/-- BIT_1__HL, CB 4E (R249). -/
def execBit_1_atHL (s : State) : Result := bitTest .b1 .atHL s

/-- BIT_1_A, CB 4F (R248). -/
def execBit_1_A (s : State) : Result := bitTest .b1 (.reg .a) s

/-- BIT_2_B, CB 50 (R248). -/
def execBit_2_B (s : State) : Result := bitTest .b2 (.reg .b) s

/-- BIT_2_C, CB 51 (R248). -/
def execBit_2_C (s : State) : Result := bitTest .b2 (.reg .c) s

/-- BIT_2_D, CB 52 (R248). -/
def execBit_2_D (s : State) : Result := bitTest .b2 (.reg .d) s

/-- BIT_2_E, CB 53 (R248). -/
def execBit_2_E (s : State) : Result := bitTest .b2 (.reg .e) s

/-- BIT_2_H, CB 54 (R248). -/
def execBit_2_H (s : State) : Result := bitTest .b2 (.reg .h) s

/-- BIT_2_L, CB 55 (R248). -/
def execBit_2_L (s : State) : Result := bitTest .b2 (.reg .l) s

/-- BIT_2__HL, CB 56 (R249). -/
def execBit_2_atHL (s : State) : Result := bitTest .b2 .atHL s

/-- BIT_2_A, CB 57 (R248). -/
def execBit_2_A (s : State) : Result := bitTest .b2 (.reg .a) s

/-- BIT_3_B, CB 58 (R248). -/
def execBit_3_B (s : State) : Result := bitTest .b3 (.reg .b) s

/-- BIT_3_C, CB 59 (R248). -/
def execBit_3_C (s : State) : Result := bitTest .b3 (.reg .c) s

/-- BIT_3_D, CB 5A (R248). -/
def execBit_3_D (s : State) : Result := bitTest .b3 (.reg .d) s

/-- BIT_3_E, CB 5B (R248). -/
def execBit_3_E (s : State) : Result := bitTest .b3 (.reg .e) s

/-- BIT_3_H, CB 5C (R248). -/
def execBit_3_H (s : State) : Result := bitTest .b3 (.reg .h) s

/-- BIT_3_L, CB 5D (R248). -/
def execBit_3_L (s : State) : Result := bitTest .b3 (.reg .l) s

/-- BIT_3__HL, CB 5E (R249). -/
def execBit_3_atHL (s : State) : Result := bitTest .b3 .atHL s

/-- BIT_3_A, CB 5F (R248). -/
def execBit_3_A (s : State) : Result := bitTest .b3 (.reg .a) s

/-- BIT_4_B, CB 60 (R248). -/
def execBit_4_B (s : State) : Result := bitTest .b4 (.reg .b) s

/-- BIT_4_C, CB 61 (R248). -/
def execBit_4_C (s : State) : Result := bitTest .b4 (.reg .c) s

/-- BIT_4_D, CB 62 (R248). -/
def execBit_4_D (s : State) : Result := bitTest .b4 (.reg .d) s

/-- BIT_4_E, CB 63 (R248). -/
def execBit_4_E (s : State) : Result := bitTest .b4 (.reg .e) s

/-- BIT_4_H, CB 64 (R248). -/
def execBit_4_H (s : State) : Result := bitTest .b4 (.reg .h) s

/-- BIT_4_L, CB 65 (R248). -/
def execBit_4_L (s : State) : Result := bitTest .b4 (.reg .l) s

/-- BIT_4__HL, CB 66 (R249). -/
def execBit_4_atHL (s : State) : Result := bitTest .b4 .atHL s

/-- BIT_4_A, CB 67 (R248). -/
def execBit_4_A (s : State) : Result := bitTest .b4 (.reg .a) s

/-- BIT_5_B, CB 68 (R248). -/
def execBit_5_B (s : State) : Result := bitTest .b5 (.reg .b) s

/-- BIT_5_C, CB 69 (R248). -/
def execBit_5_C (s : State) : Result := bitTest .b5 (.reg .c) s

/-- BIT_5_D, CB 6A (R248). -/
def execBit_5_D (s : State) : Result := bitTest .b5 (.reg .d) s

/-- BIT_5_E, CB 6B (R248). -/
def execBit_5_E (s : State) : Result := bitTest .b5 (.reg .e) s

/-- BIT_5_H, CB 6C (R248). -/
def execBit_5_H (s : State) : Result := bitTest .b5 (.reg .h) s

/-- BIT_5_L, CB 6D (R248). -/
def execBit_5_L (s : State) : Result := bitTest .b5 (.reg .l) s

/-- BIT_5__HL, CB 6E (R249). -/
def execBit_5_atHL (s : State) : Result := bitTest .b5 .atHL s

/-- BIT_5_A, CB 6F (R248). -/
def execBit_5_A (s : State) : Result := bitTest .b5 (.reg .a) s

/-- BIT_6_B, CB 70 (R248). -/
def execBit_6_B (s : State) : Result := bitTest .b6 (.reg .b) s

/-- BIT_6_C, CB 71 (R248). -/
def execBit_6_C (s : State) : Result := bitTest .b6 (.reg .c) s

/-- BIT_6_D, CB 72 (R248). -/
def execBit_6_D (s : State) : Result := bitTest .b6 (.reg .d) s

/-- BIT_6_E, CB 73 (R248). -/
def execBit_6_E (s : State) : Result := bitTest .b6 (.reg .e) s

/-- BIT_6_H, CB 74 (R248). -/
def execBit_6_H (s : State) : Result := bitTest .b6 (.reg .h) s

/-- BIT_6_L, CB 75 (R248). -/
def execBit_6_L (s : State) : Result := bitTest .b6 (.reg .l) s

/-- BIT_6__HL, CB 76 (R249). -/
def execBit_6_atHL (s : State) : Result := bitTest .b6 .atHL s

/-- BIT_6_A, CB 77 (R248). -/
def execBit_6_A (s : State) : Result := bitTest .b6 (.reg .a) s

/-- BIT_7_B, CB 78 (R248). -/
def execBit_7_B (s : State) : Result := bitTest .b7 (.reg .b) s

/-- BIT_7_C, CB 79 (R248). -/
def execBit_7_C (s : State) : Result := bitTest .b7 (.reg .c) s

/-- BIT_7_D, CB 7A (R248). -/
def execBit_7_D (s : State) : Result := bitTest .b7 (.reg .d) s

/-- BIT_7_E, CB 7B (R248). -/
def execBit_7_E (s : State) : Result := bitTest .b7 (.reg .e) s

/-- BIT_7_H, CB 7C (R248). -/
def execBit_7_H (s : State) : Result := bitTest .b7 (.reg .h) s

/-- BIT_7_L, CB 7D (R248). -/
def execBit_7_L (s : State) : Result := bitTest .b7 (.reg .l) s

/-- BIT_7__HL, CB 7E (R249). -/
def execBit_7_atHL (s : State) : Result := bitTest .b7 .atHL s

/-- BIT_7_A, CB 7F (R248). -/
def execBit_7_A (s : State) : Result := bitTest .b7 (.reg .a) s

/-- RES_0_B, CB 80 (R250). -/
def execRes_0_B (s : State) : Result := bitReset .b0 (.reg .b) s

/-- RES_0_C, CB 81 (R250). -/
def execRes_0_C (s : State) : Result := bitReset .b0 (.reg .c) s

/-- RES_0_D, CB 82 (R250). -/
def execRes_0_D (s : State) : Result := bitReset .b0 (.reg .d) s

/-- RES_0_E, CB 83 (R250). -/
def execRes_0_E (s : State) : Result := bitReset .b0 (.reg .e) s

/-- RES_0_H, CB 84 (R250). -/
def execRes_0_H (s : State) : Result := bitReset .b0 (.reg .h) s

/-- RES_0_L, CB 85 (R250). -/
def execRes_0_L (s : State) : Result := bitReset .b0 (.reg .l) s

/-- RES_0__HL, CB 86 (R251). -/
def execRes_0_atHL (s : State) : Result := bitReset .b0 .atHL s

/-- RES_0_A, CB 87 (R250). -/
def execRes_0_A (s : State) : Result := bitReset .b0 (.reg .a) s

/-- RES_1_B, CB 88 (R250). -/
def execRes_1_B (s : State) : Result := bitReset .b1 (.reg .b) s

/-- RES_1_C, CB 89 (R250). -/
def execRes_1_C (s : State) : Result := bitReset .b1 (.reg .c) s

/-- RES_1_D, CB 8A (R250). -/
def execRes_1_D (s : State) : Result := bitReset .b1 (.reg .d) s

/-- RES_1_E, CB 8B (R250). -/
def execRes_1_E (s : State) : Result := bitReset .b1 (.reg .e) s

/-- RES_1_H, CB 8C (R250). -/
def execRes_1_H (s : State) : Result := bitReset .b1 (.reg .h) s

/-- RES_1_L, CB 8D (R250). -/
def execRes_1_L (s : State) : Result := bitReset .b1 (.reg .l) s

/-- RES_1__HL, CB 8E (R251). -/
def execRes_1_atHL (s : State) : Result := bitReset .b1 .atHL s

/-- RES_1_A, CB 8F (R250). -/
def execRes_1_A (s : State) : Result := bitReset .b1 (.reg .a) s

/-- RES_2_B, CB 90 (R250). -/
def execRes_2_B (s : State) : Result := bitReset .b2 (.reg .b) s

/-- RES_2_C, CB 91 (R250). -/
def execRes_2_C (s : State) : Result := bitReset .b2 (.reg .c) s

/-- RES_2_D, CB 92 (R250). -/
def execRes_2_D (s : State) : Result := bitReset .b2 (.reg .d) s

/-- RES_2_E, CB 93 (R250). -/
def execRes_2_E (s : State) : Result := bitReset .b2 (.reg .e) s

/-- RES_2_H, CB 94 (R250). -/
def execRes_2_H (s : State) : Result := bitReset .b2 (.reg .h) s

/-- RES_2_L, CB 95 (R250). -/
def execRes_2_L (s : State) : Result := bitReset .b2 (.reg .l) s

/-- RES_2__HL, CB 96 (R251). -/
def execRes_2_atHL (s : State) : Result := bitReset .b2 .atHL s

/-- RES_2_A, CB 97 (R250). -/
def execRes_2_A (s : State) : Result := bitReset .b2 (.reg .a) s

/-- RES_3_B, CB 98 (R250). -/
def execRes_3_B (s : State) : Result := bitReset .b3 (.reg .b) s

/-- RES_3_C, CB 99 (R250). -/
def execRes_3_C (s : State) : Result := bitReset .b3 (.reg .c) s

/-- RES_3_D, CB 9A (R250). -/
def execRes_3_D (s : State) : Result := bitReset .b3 (.reg .d) s

/-- RES_3_E, CB 9B (R250). -/
def execRes_3_E (s : State) : Result := bitReset .b3 (.reg .e) s

/-- RES_3_H, CB 9C (R250). -/
def execRes_3_H (s : State) : Result := bitReset .b3 (.reg .h) s

/-- RES_3_L, CB 9D (R250). -/
def execRes_3_L (s : State) : Result := bitReset .b3 (.reg .l) s

/-- RES_3__HL, CB 9E (R251). -/
def execRes_3_atHL (s : State) : Result := bitReset .b3 .atHL s

/-- RES_3_A, CB 9F (R250). -/
def execRes_3_A (s : State) : Result := bitReset .b3 (.reg .a) s

/-- RES_4_B, CB A0 (R250). -/
def execRes_4_B (s : State) : Result := bitReset .b4 (.reg .b) s

/-- RES_4_C, CB A1 (R250). -/
def execRes_4_C (s : State) : Result := bitReset .b4 (.reg .c) s

/-- RES_4_D, CB A2 (R250). -/
def execRes_4_D (s : State) : Result := bitReset .b4 (.reg .d) s

/-- RES_4_E, CB A3 (R250). -/
def execRes_4_E (s : State) : Result := bitReset .b4 (.reg .e) s

/-- RES_4_H, CB A4 (R250). -/
def execRes_4_H (s : State) : Result := bitReset .b4 (.reg .h) s

/-- RES_4_L, CB A5 (R250). -/
def execRes_4_L (s : State) : Result := bitReset .b4 (.reg .l) s

/-- RES_4__HL, CB A6 (R251). -/
def execRes_4_atHL (s : State) : Result := bitReset .b4 .atHL s

/-- RES_4_A, CB A7 (R250). -/
def execRes_4_A (s : State) : Result := bitReset .b4 (.reg .a) s

/-- RES_5_B, CB A8 (R250). -/
def execRes_5_B (s : State) : Result := bitReset .b5 (.reg .b) s

/-- RES_5_C, CB A9 (R250). -/
def execRes_5_C (s : State) : Result := bitReset .b5 (.reg .c) s

/-- RES_5_D, CB AA (R250). -/
def execRes_5_D (s : State) : Result := bitReset .b5 (.reg .d) s

/-- RES_5_E, CB AB (R250). -/
def execRes_5_E (s : State) : Result := bitReset .b5 (.reg .e) s

/-- RES_5_H, CB AC (R250). -/
def execRes_5_H (s : State) : Result := bitReset .b5 (.reg .h) s

/-- RES_5_L, CB AD (R250). -/
def execRes_5_L (s : State) : Result := bitReset .b5 (.reg .l) s

/-- RES_5__HL, CB AE (R251). -/
def execRes_5_atHL (s : State) : Result := bitReset .b5 .atHL s

/-- RES_5_A, CB AF (R250). -/
def execRes_5_A (s : State) : Result := bitReset .b5 (.reg .a) s

/-- RES_6_B, CB B0 (R250). -/
def execRes_6_B (s : State) : Result := bitReset .b6 (.reg .b) s

/-- RES_6_C, CB B1 (R250). -/
def execRes_6_C (s : State) : Result := bitReset .b6 (.reg .c) s

/-- RES_6_D, CB B2 (R250). -/
def execRes_6_D (s : State) : Result := bitReset .b6 (.reg .d) s

/-- RES_6_E, CB B3 (R250). -/
def execRes_6_E (s : State) : Result := bitReset .b6 (.reg .e) s

/-- RES_6_H, CB B4 (R250). -/
def execRes_6_H (s : State) : Result := bitReset .b6 (.reg .h) s

/-- RES_6_L, CB B5 (R250). -/
def execRes_6_L (s : State) : Result := bitReset .b6 (.reg .l) s

/-- RES_6__HL, CB B6 (R251). -/
def execRes_6_atHL (s : State) : Result := bitReset .b6 .atHL s

/-- RES_6_A, CB B7 (R250). -/
def execRes_6_A (s : State) : Result := bitReset .b6 (.reg .a) s

/-- RES_7_B, CB B8 (R250). -/
def execRes_7_B (s : State) : Result := bitReset .b7 (.reg .b) s

/-- RES_7_C, CB B9 (R250). -/
def execRes_7_C (s : State) : Result := bitReset .b7 (.reg .c) s

/-- RES_7_D, CB BA (R250). -/
def execRes_7_D (s : State) : Result := bitReset .b7 (.reg .d) s

/-- RES_7_E, CB BB (R250). -/
def execRes_7_E (s : State) : Result := bitReset .b7 (.reg .e) s

/-- RES_7_H, CB BC (R250). -/
def execRes_7_H (s : State) : Result := bitReset .b7 (.reg .h) s

/-- RES_7_L, CB BD (R250). -/
def execRes_7_L (s : State) : Result := bitReset .b7 (.reg .l) s

/-- RES_7__HL, CB BE (R251). -/
def execRes_7_atHL (s : State) : Result := bitReset .b7 .atHL s

/-- RES_7_A, CB BF (R250). -/
def execRes_7_A (s : State) : Result := bitReset .b7 (.reg .a) s

/-- SET_0_B, CB C0 (R252). -/
def execSet_0_B (s : State) : Result := bitSet .b0 (.reg .b) s

/-- SET_0_C, CB C1 (R252). -/
def execSet_0_C (s : State) : Result := bitSet .b0 (.reg .c) s

/-- SET_0_D, CB C2 (R252). -/
def execSet_0_D (s : State) : Result := bitSet .b0 (.reg .d) s

/-- SET_0_E, CB C3 (R252). -/
def execSet_0_E (s : State) : Result := bitSet .b0 (.reg .e) s

/-- SET_0_H, CB C4 (R252). -/
def execSet_0_H (s : State) : Result := bitSet .b0 (.reg .h) s

/-- SET_0_L, CB C5 (R252). -/
def execSet_0_L (s : State) : Result := bitSet .b0 (.reg .l) s

/-- SET_0__HL, CB C6 (R253). -/
def execSet_0_atHL (s : State) : Result := bitSet .b0 .atHL s

/-- SET_0_A, CB C7 (R252). -/
def execSet_0_A (s : State) : Result := bitSet .b0 (.reg .a) s

/-- SET_1_B, CB C8 (R252). -/
def execSet_1_B (s : State) : Result := bitSet .b1 (.reg .b) s

/-- SET_1_C, CB C9 (R252). -/
def execSet_1_C (s : State) : Result := bitSet .b1 (.reg .c) s

/-- SET_1_D, CB CA (R252). -/
def execSet_1_D (s : State) : Result := bitSet .b1 (.reg .d) s

/-- SET_1_E, CB CB (R252). -/
def execSet_1_E (s : State) : Result := bitSet .b1 (.reg .e) s

/-- SET_1_H, CB CC (R252). -/
def execSet_1_H (s : State) : Result := bitSet .b1 (.reg .h) s

/-- SET_1_L, CB CD (R252). -/
def execSet_1_L (s : State) : Result := bitSet .b1 (.reg .l) s

/-- SET_1__HL, CB CE (R253). -/
def execSet_1_atHL (s : State) : Result := bitSet .b1 .atHL s

/-- SET_1_A, CB CF (R252). -/
def execSet_1_A (s : State) : Result := bitSet .b1 (.reg .a) s

/-- SET_2_B, CB D0 (R252). -/
def execSet_2_B (s : State) : Result := bitSet .b2 (.reg .b) s

/-- SET_2_C, CB D1 (R252). -/
def execSet_2_C (s : State) : Result := bitSet .b2 (.reg .c) s

/-- SET_2_D, CB D2 (R252). -/
def execSet_2_D (s : State) : Result := bitSet .b2 (.reg .d) s

/-- SET_2_E, CB D3 (R252). -/
def execSet_2_E (s : State) : Result := bitSet .b2 (.reg .e) s

/-- SET_2_H, CB D4 (R252). -/
def execSet_2_H (s : State) : Result := bitSet .b2 (.reg .h) s

/-- SET_2_L, CB D5 (R252). -/
def execSet_2_L (s : State) : Result := bitSet .b2 (.reg .l) s

/-- SET_2__HL, CB D6 (R253). -/
def execSet_2_atHL (s : State) : Result := bitSet .b2 .atHL s

/-- SET_2_A, CB D7 (R252). -/
def execSet_2_A (s : State) : Result := bitSet .b2 (.reg .a) s

/-- SET_3_B, CB D8 (R252). -/
def execSet_3_B (s : State) : Result := bitSet .b3 (.reg .b) s

/-- SET_3_C, CB D9 (R252). -/
def execSet_3_C (s : State) : Result := bitSet .b3 (.reg .c) s

/-- SET_3_D, CB DA (R252). -/
def execSet_3_D (s : State) : Result := bitSet .b3 (.reg .d) s

/-- SET_3_E, CB DB (R252). -/
def execSet_3_E (s : State) : Result := bitSet .b3 (.reg .e) s

/-- SET_3_H, CB DC (R252). -/
def execSet_3_H (s : State) : Result := bitSet .b3 (.reg .h) s

/-- SET_3_L, CB DD (R252). -/
def execSet_3_L (s : State) : Result := bitSet .b3 (.reg .l) s

/-- SET_3__HL, CB DE (R253). -/
def execSet_3_atHL (s : State) : Result := bitSet .b3 .atHL s

/-- SET_3_A, CB DF (R252). -/
def execSet_3_A (s : State) : Result := bitSet .b3 (.reg .a) s

/-- SET_4_B, CB E0 (R252). -/
def execSet_4_B (s : State) : Result := bitSet .b4 (.reg .b) s

/-- SET_4_C, CB E1 (R252). -/
def execSet_4_C (s : State) : Result := bitSet .b4 (.reg .c) s

/-- SET_4_D, CB E2 (R252). -/
def execSet_4_D (s : State) : Result := bitSet .b4 (.reg .d) s

/-- SET_4_E, CB E3 (R252). -/
def execSet_4_E (s : State) : Result := bitSet .b4 (.reg .e) s

/-- SET_4_H, CB E4 (R252). -/
def execSet_4_H (s : State) : Result := bitSet .b4 (.reg .h) s

/-- SET_4_L, CB E5 (R252). -/
def execSet_4_L (s : State) : Result := bitSet .b4 (.reg .l) s

/-- SET_4__HL, CB E6 (R253). -/
def execSet_4_atHL (s : State) : Result := bitSet .b4 .atHL s

/-- SET_4_A, CB E7 (R252). -/
def execSet_4_A (s : State) : Result := bitSet .b4 (.reg .a) s

/-- SET_5_B, CB E8 (R252). -/
def execSet_5_B (s : State) : Result := bitSet .b5 (.reg .b) s

/-- SET_5_C, CB E9 (R252). -/
def execSet_5_C (s : State) : Result := bitSet .b5 (.reg .c) s

/-- SET_5_D, CB EA (R252). -/
def execSet_5_D (s : State) : Result := bitSet .b5 (.reg .d) s

/-- SET_5_E, CB EB (R252). -/
def execSet_5_E (s : State) : Result := bitSet .b5 (.reg .e) s

/-- SET_5_H, CB EC (R252). -/
def execSet_5_H (s : State) : Result := bitSet .b5 (.reg .h) s

/-- SET_5_L, CB ED (R252). -/
def execSet_5_L (s : State) : Result := bitSet .b5 (.reg .l) s

/-- SET_5__HL, CB EE (R253). -/
def execSet_5_atHL (s : State) : Result := bitSet .b5 .atHL s

/-- SET_5_A, CB EF (R252). -/
def execSet_5_A (s : State) : Result := bitSet .b5 (.reg .a) s

/-- SET_6_B, CB F0 (R252). -/
def execSet_6_B (s : State) : Result := bitSet .b6 (.reg .b) s

/-- SET_6_C, CB F1 (R252). -/
def execSet_6_C (s : State) : Result := bitSet .b6 (.reg .c) s

/-- SET_6_D, CB F2 (R252). -/
def execSet_6_D (s : State) : Result := bitSet .b6 (.reg .d) s

/-- SET_6_E, CB F3 (R252). -/
def execSet_6_E (s : State) : Result := bitSet .b6 (.reg .e) s

/-- SET_6_H, CB F4 (R252). -/
def execSet_6_H (s : State) : Result := bitSet .b6 (.reg .h) s

/-- SET_6_L, CB F5 (R252). -/
def execSet_6_L (s : State) : Result := bitSet .b6 (.reg .l) s

/-- SET_6__HL, CB F6 (R253). -/
def execSet_6_atHL (s : State) : Result := bitSet .b6 .atHL s

/-- SET_6_A, CB F7 (R252). -/
def execSet_6_A (s : State) : Result := bitSet .b6 (.reg .a) s

/-- SET_7_B, CB F8 (R252). -/
def execSet_7_B (s : State) : Result := bitSet .b7 (.reg .b) s

/-- SET_7_C, CB F9 (R252). -/
def execSet_7_C (s : State) : Result := bitSet .b7 (.reg .c) s

/-- SET_7_D, CB FA (R252). -/
def execSet_7_D (s : State) : Result := bitSet .b7 (.reg .d) s

/-- SET_7_E, CB FB (R252). -/
def execSet_7_E (s : State) : Result := bitSet .b7 (.reg .e) s

/-- SET_7_H, CB FC (R252). -/
def execSet_7_H (s : State) : Result := bitSet .b7 (.reg .h) s

/-- SET_7_L, CB FD (R252). -/
def execSet_7_L (s : State) : Result := bitSet .b7 (.reg .l) s

/-- SET_7__HL, CB FE (R253). -/
def execSet_7_atHL (s : State) : Result := bitSet .b7 .atHL s

/-- SET_7_A, CB FF (R252). -/
def execSet_7_A (s : State) : Result := bitSet .b7 (.reg .a) s

end Sys2Proof.Machine
end

