-- ==== Sys2Proof/Machine/Control.lean ====
section
/-! DEFINITION. Control transfer (45_control.md). `s.pc` is the address after the whole instruction:
the return address of CALL and RST and the base of JR (R26). No instruction here writes a flag. -/

namespace Sys2Proof.Machine

open Sys2Proof

/-- `JP nn` (R261). -/
def jpAbs (nn : Word) (s : State) : Result := .next (s.setPC nn)

/-- `JP cc,nn` (R262). -/
def jpAbsIf (cc : Cond) (nn : Word) (s : State) : Result :=
  if condHolds s.f cc = true then jpAbs nn s else .next s

/-- `JP HL` (R263). -/
def jpHL (s : State) : Result := .next (s.setPC s.hl)

/-- `JR e` (R264). -/
def jrRel (e : Byte) (s : State) : Result := .next (s.setPC (relTarget s.pc e))

/-- `JR cc,e` (R265). -/
def jrRelIf (cc : Cond) (e : Byte) (s : State) : Result :=
  if condHolds s.f cc = true then jrRel e s else .next s

/-- `CALL nn` (R266). -/
def callAbs (nn : Word) (s : State) : Result := .next ((s.push16 s.pc).setPC nn)

/-- `CALL cc,nn` (R267). -/
def callIf (cc : Cond) (nn : Word) (s : State) : Result :=
  if condHolds s.f cc = true then callAbs nn s else .next s

/-- `RET` (R268), and the effect of `RETI` (R270). -/
def ret (s : State) : Result := .next (s.drop16.setPC s.top16)

/-- `RET cc` (R269). -/
def retIf (cc : Cond) (s : State) : Result :=
  if condHolds s.f cc = true then ret s else .next s

/-- `RST t` (R271). -/
def restart (t : RstVec) (s : State) : Result := .next ((s.push16 s.pc).setPC (rstTarget t))

/-- JR_e, 18 (R264). -/
def execJr_e (e : Byte) (s : State) : Result := jrRel e s

/-- JR_NZ_e, 20 (R265). -/
def execJr_NZ_e (e : Byte) (s : State) : Result := jrRelIf .nz e s

/-- JR_Z_e, 28 (R265). -/
def execJr_Z_e (e : Byte) (s : State) : Result := jrRelIf .z e s

/-- JR_NC_e, 30 (R265). -/
def execJr_NC_e (e : Byte) (s : State) : Result := jrRelIf .nc e s

/-- JR_C_e, 38 (R265). -/
def execJr_C_e (e : Byte) (s : State) : Result := jrRelIf .c e s

/-- RET_NZ, C0 (R269). -/
def execRet_NZ (s : State) : Result := retIf .nz s

/-- JP_NZ_nn, C2 (R262). -/
def execJp_NZ_nn (nn : Word) (s : State) : Result := jpAbsIf .nz nn s

/-- JP_nn, C3 (R261). -/
def execJp_nn (nn : Word) (s : State) : Result := jpAbs nn s

/-- CALL_NZ_nn, C4 (R267). -/
def execCall_NZ_nn (nn : Word) (s : State) : Result := callIf .nz nn s

/-- RST_0x00, C7 (R271). -/
def execRst_00 (s : State) : Result := restart .v00 s

/-- RET_Z, C8 (R269). -/
def execRet_Z (s : State) : Result := retIf .z s

/-- RET, C9 (R268). -/
def execRet (s : State) : Result := ret s

/-- JP_Z_nn, CA (R262). -/
def execJp_Z_nn (nn : Word) (s : State) : Result := jpAbsIf .z nn s

/-- CALL_Z_nn, CC (R267). -/
def execCall_Z_nn (nn : Word) (s : State) : Result := callIf .z nn s

/-- CALL_nn, CD (R266). -/
def execCall_nn (nn : Word) (s : State) : Result := callAbs nn s

/-- RST_0x08, CF (R271). -/
def execRst_08 (s : State) : Result := restart .v08 s

/-- RET_NC, D0 (R269). -/
def execRet_NC (s : State) : Result := retIf .nc s

/-- JP_NC_nn, D2 (R262). -/
def execJp_NC_nn (nn : Word) (s : State) : Result := jpAbsIf .nc nn s

/-- CALL_NC_nn, D4 (R267). -/
def execCall_NC_nn (nn : Word) (s : State) : Result := callIf .nc nn s

/-- RST_0x10, D7 (R271). -/
def execRst_10 (s : State) : Result := restart .v10 s

/-- RET_C, D8 (R269). -/
def execRet_C (s : State) : Result := retIf .c s

/-- RETI, D9 (R270; as RET). -/
def execReti (s : State) : Result := ret s

/-- JP_C_nn, DA (R262). -/
def execJp_C_nn (nn : Word) (s : State) : Result := jpAbsIf .c nn s

/-- CALL_C_nn, DC (R267). -/
def execCall_C_nn (nn : Word) (s : State) : Result := callIf .c nn s

/-- RST_0x18, DF (R271). -/
def execRst_18 (s : State) : Result := restart .v18 s

/-- RST_0x20, E7 (R271). -/
def execRst_20 (s : State) : Result := restart .v20 s

/-- JP_HL, E9 (R263). -/
def execJp_HL (s : State) : Result := jpHL s

/-- RST_0x28, EF (R271). -/
def execRst_28 (s : State) : Result := restart .v28 s

/-- RST_0x30, F7 (R271). -/
def execRst_30 (s : State) : Result := restart .v30 s

/-- RST_0x38, FF (R271). -/
def execRst_38 (s : State) : Result := restart .v38 s

end Sys2Proof.Machine
end

