-- ==== Sys2Proof/Machine/Load16.lean ====
section
/-! DEFINITION. The 16-bit loads (41_load16.md). -/

namespace Sys2Proof.Machine

open Sys2Proof

/-- `LD rr,nn` (R160). -/
def ldRpImm (p : Rp) (nn : Word) (s : State) : Result := .next (s.setRp p nn)

/-- `LD (nn),SP` (R161). -/
def ldAbsSP (nn : Word) (s : State) : Result := .next (s.write16 nn s.sp)

/-- `LD SP,HL` (R162). -/
def ldSPHL (s : State) : Result := .next (s.setSP s.hl)

/-- `LD HL,SP+e` (R163). -/
def ldHLSP (e : Byte) (s : State) : Result :=
  .next ((s.setHL (addsp16 s.sp e).1).setFlags (addsp16 s.sp e).2)

/-- LD_BC_nn, 01 (R160). -/
def execLd_BC_nn (nn : Word) (s : State) : Result := ldRpImm .bc nn s

/-- LD__nn__SP, 08 (R161). -/
def execLd_atnn_SP (nn : Word) (s : State) : Result := ldAbsSP nn s

/-- LD_DE_nn, 11 (R160). -/
def execLd_DE_nn (nn : Word) (s : State) : Result := ldRpImm .de nn s

/-- LD_HL_nn, 21 (R160). -/
def execLd_HL_nn (nn : Word) (s : State) : Result := ldRpImm .hl nn s

/-- LD_SP_nn, 31 (R160). -/
def execLd_SP_nn (nn : Word) (s : State) : Result := ldRpImm .sp nn s

/-- LD_HL_SP+e, F8 (R163). -/
def execLd_HL_SPe (e : Byte) (s : State) : Result := ldHLSP e s

/-- LD_SP_HL, F9 (R162). -/
def execLd_SP_HL (s : State) : Result := ldSPHL s

end Sys2Proof.Machine
end

