-- ==== Sys2Proof/Machine/Load8.lean ====
section
/-! DEFINITION. The 8-bit loads (40_load8.md). Each meaning starts from the state after the whole
instruction was fetched; none writes a flag. -/

namespace Sys2Proof.Machine

open Sys2Proof

/-- `LD r,r'` (R130). -/
def ldRegReg (dst src : Reg8) (s : State) : Result := .next (s.setReg dst (s.getReg src))

/-- `LD r,(HL)` (R131). -/
def ldRegHL (dst : Reg8) (s : State) : Result := .next (s.setReg dst (s.read8 s.hl))

/-- `LD (HL),r` (R132). -/
def ldHLReg (r : Reg8) (s : State) : Result := .next (s.write8 s.hl (s.getReg r))

/-- `LD r,n` (R133). -/
def ldRegImm (dst : Reg8) (n : Byte) (s : State) : Result := .next (s.setReg dst n)

/-- `LD (HL),n` (R134). -/
def ldHLImm (n : Byte) (s : State) : Result := .next (s.write8 s.hl n)

/-- `LD (BC),A`, `LD (DE),A`, `LD (HL+),A`, `LD (HL-),A` (R135 to R138). -/
def storeA (i : Indirect) (s : State) : Result :=
  .next ((s.write8 (s.indirectAddr i) s.regs.a).indirectUpdate i)

/-- `LD A,(BC)`, `LD A,(DE)`, `LD A,(HL+)`, `LD A,(HL-)` (R139 to R142). -/
def loadA (i : Indirect) (s : State) : Result :=
  .next ((s.setReg .a (s.read8 (s.indirectAddr i))).indirectUpdate i)

/-- `LDH (n),A` (R143). -/
def ldhStore (n : Byte) (s : State) : Result := .next (s.write8 (ffPage n) s.regs.a)

/-- `LDH A,(n)` (R144). -/
def ldhLoad (n : Byte) (s : State) : Result := .next (s.setReg .a (s.read8 (ffPage n)))

/-- `LD (C),A` (R145). -/
def ldCStore (s : State) : Result := .next (s.write8 (ffPage s.regs.c) s.regs.a)

/-- `LD A,(C)` (R146). -/
def ldCLoad (s : State) : Result := .next (s.setReg .a (s.read8 (ffPage s.regs.c)))

/-- `LD (nn),A` (R147). -/
def ldAbsStore (nn : Word) (s : State) : Result := .next (s.write8 nn s.regs.a)

/-- `LD A,(nn)` (R148). -/
def ldAbsLoad (nn : Word) (s : State) : Result := .next (s.setReg .a (s.read8 nn))

/-- LD__BC__A, 02 (R135). -/
def execLd_atBC_A (s : State) : Result := storeA .bc s

/-- LD_B_n, 06 (R133). -/
def execLd_B_n (n : Byte) (s : State) : Result := ldRegImm .b n s

/-- LD_A__BC, 0A (R139). -/
def execLd_A_atBC (s : State) : Result := loadA .bc s

/-- LD_C_n, 0E (R133). -/
def execLd_C_n (n : Byte) (s : State) : Result := ldRegImm .c n s

/-- LD__DE__A, 12 (R136). -/
def execLd_atDE_A (s : State) : Result := storeA .de s

/-- LD_D_n, 16 (R133). -/
def execLd_D_n (n : Byte) (s : State) : Result := ldRegImm .d n s

/-- LD_A__DE, 1A (R140). -/
def execLd_A_atDE (s : State) : Result := loadA .de s

/-- LD_E_n, 1E (R133). -/
def execLd_E_n (n : Byte) (s : State) : Result := ldRegImm .e n s

/-- LD__HL+__A, 22 (R137). -/
def execLd_atHLinc_A (s : State) : Result := storeA .hlInc s

/-- LD_H_n, 26 (R133). -/
def execLd_H_n (n : Byte) (s : State) : Result := ldRegImm .h n s

/-- LD_A__HL+, 2A (R141). -/
def execLd_A_atHLinc (s : State) : Result := loadA .hlInc s

/-- LD_L_n, 2E (R133). -/
def execLd_L_n (n : Byte) (s : State) : Result := ldRegImm .l n s

/-- LD__HL-__A, 32 (R138). -/
def execLd_atHLdec_A (s : State) : Result := storeA .hlDec s

/-- LD__HL__n, 36 (R134). -/
def execLd_atHL_n (n : Byte) (s : State) : Result := ldHLImm n s

/-- LD_A__HL-, 3A (R142). -/
def execLd_A_atHLdec (s : State) : Result := loadA .hlDec s

/-- LD_A_n, 3E (R133). -/
def execLd_A_n (n : Byte) (s : State) : Result := ldRegImm .a n s

/-- LD_B_B, 40 (R130). -/
def execLd_B_B (s : State) : Result := ldRegReg .b .b s

/-- LD_B_C, 41 (R130). -/
def execLd_B_C (s : State) : Result := ldRegReg .b .c s

/-- LD_B_D, 42 (R130). -/
def execLd_B_D (s : State) : Result := ldRegReg .b .d s

/-- LD_B_E, 43 (R130). -/
def execLd_B_E (s : State) : Result := ldRegReg .b .e s

/-- LD_B_H, 44 (R130). -/
def execLd_B_H (s : State) : Result := ldRegReg .b .h s

/-- LD_B_L, 45 (R130). -/
def execLd_B_L (s : State) : Result := ldRegReg .b .l s

/-- LD_B__HL, 46 (R131). -/
def execLd_B_atHL (s : State) : Result := ldRegHL .b s

/-- LD_B_A, 47 (R130). -/
def execLd_B_A (s : State) : Result := ldRegReg .b .a s

/-- LD_C_B, 48 (R130). -/
def execLd_C_B (s : State) : Result := ldRegReg .c .b s

/-- LD_C_C, 49 (R130). -/
def execLd_C_C (s : State) : Result := ldRegReg .c .c s

/-- LD_C_D, 4A (R130). -/
def execLd_C_D (s : State) : Result := ldRegReg .c .d s

/-- LD_C_E, 4B (R130). -/
def execLd_C_E (s : State) : Result := ldRegReg .c .e s

/-- LD_C_H, 4C (R130). -/
def execLd_C_H (s : State) : Result := ldRegReg .c .h s

/-- LD_C_L, 4D (R130). -/
def execLd_C_L (s : State) : Result := ldRegReg .c .l s

/-- LD_C__HL, 4E (R131). -/
def execLd_C_atHL (s : State) : Result := ldRegHL .c s

/-- LD_C_A, 4F (R130). -/
def execLd_C_A (s : State) : Result := ldRegReg .c .a s

/-- LD_D_B, 50 (R130). -/
def execLd_D_B (s : State) : Result := ldRegReg .d .b s

/-- LD_D_C, 51 (R130). -/
def execLd_D_C (s : State) : Result := ldRegReg .d .c s

/-- LD_D_D, 52 (R130). -/
def execLd_D_D (s : State) : Result := ldRegReg .d .d s

/-- LD_D_E, 53 (R130). -/
def execLd_D_E (s : State) : Result := ldRegReg .d .e s

/-- LD_D_H, 54 (R130). -/
def execLd_D_H (s : State) : Result := ldRegReg .d .h s

/-- LD_D_L, 55 (R130). -/
def execLd_D_L (s : State) : Result := ldRegReg .d .l s

/-- LD_D__HL, 56 (R131). -/
def execLd_D_atHL (s : State) : Result := ldRegHL .d s

/-- LD_D_A, 57 (R130). -/
def execLd_D_A (s : State) : Result := ldRegReg .d .a s

/-- LD_E_B, 58 (R130). -/
def execLd_E_B (s : State) : Result := ldRegReg .e .b s

/-- LD_E_C, 59 (R130). -/
def execLd_E_C (s : State) : Result := ldRegReg .e .c s

/-- LD_E_D, 5A (R130). -/
def execLd_E_D (s : State) : Result := ldRegReg .e .d s

/-- LD_E_E, 5B (R130). -/
def execLd_E_E (s : State) : Result := ldRegReg .e .e s

/-- LD_E_H, 5C (R130). -/
def execLd_E_H (s : State) : Result := ldRegReg .e .h s

/-- LD_E_L, 5D (R130). -/
def execLd_E_L (s : State) : Result := ldRegReg .e .l s

/-- LD_E__HL, 5E (R131). -/
def execLd_E_atHL (s : State) : Result := ldRegHL .e s

/-- LD_E_A, 5F (R130). -/
def execLd_E_A (s : State) : Result := ldRegReg .e .a s

/-- LD_H_B, 60 (R130). -/
def execLd_H_B (s : State) : Result := ldRegReg .h .b s

/-- LD_H_C, 61 (R130). -/
def execLd_H_C (s : State) : Result := ldRegReg .h .c s

/-- LD_H_D, 62 (R130). -/
def execLd_H_D (s : State) : Result := ldRegReg .h .d s

/-- LD_H_E, 63 (R130). -/
def execLd_H_E (s : State) : Result := ldRegReg .h .e s

/-- LD_H_H, 64 (R130). -/
def execLd_H_H (s : State) : Result := ldRegReg .h .h s

/-- LD_H_L, 65 (R130). -/
def execLd_H_L (s : State) : Result := ldRegReg .h .l s

/-- LD_H__HL, 66 (R131). -/
def execLd_H_atHL (s : State) : Result := ldRegHL .h s

/-- LD_H_A, 67 (R130). -/
def execLd_H_A (s : State) : Result := ldRegReg .h .a s

/-- LD_L_B, 68 (R130). -/
def execLd_L_B (s : State) : Result := ldRegReg .l .b s

/-- LD_L_C, 69 (R130). -/
def execLd_L_C (s : State) : Result := ldRegReg .l .c s

/-- LD_L_D, 6A (R130). -/
def execLd_L_D (s : State) : Result := ldRegReg .l .d s

/-- LD_L_E, 6B (R130). -/
def execLd_L_E (s : State) : Result := ldRegReg .l .e s

/-- LD_L_H, 6C (R130). -/
def execLd_L_H (s : State) : Result := ldRegReg .l .h s

/-- LD_L_L, 6D (R130). -/
def execLd_L_L (s : State) : Result := ldRegReg .l .l s

/-- LD_L__HL, 6E (R131). -/
def execLd_L_atHL (s : State) : Result := ldRegHL .l s

/-- LD_L_A, 6F (R130). -/
def execLd_L_A (s : State) : Result := ldRegReg .l .a s

/-- LD__HL__B, 70 (R132). -/
def execLd_atHL_B (s : State) : Result := ldHLReg .b s

/-- LD__HL__C, 71 (R132). -/
def execLd_atHL_C (s : State) : Result := ldHLReg .c s

/-- LD__HL__D, 72 (R132). -/
def execLd_atHL_D (s : State) : Result := ldHLReg .d s

/-- LD__HL__E, 73 (R132). -/
def execLd_atHL_E (s : State) : Result := ldHLReg .e s

/-- LD__HL__H, 74 (R132). -/
def execLd_atHL_H (s : State) : Result := ldHLReg .h s

/-- LD__HL__L, 75 (R132). -/
def execLd_atHL_L (s : State) : Result := ldHLReg .l s

/-- LD__HL__A, 77 (R132). -/
def execLd_atHL_A (s : State) : Result := ldHLReg .a s

/-- LD_A_B, 78 (R130). -/
def execLd_A_B (s : State) : Result := ldRegReg .a .b s

/-- LD_A_C, 79 (R130). -/
def execLd_A_C (s : State) : Result := ldRegReg .a .c s

/-- LD_A_D, 7A (R130). -/
def execLd_A_D (s : State) : Result := ldRegReg .a .d s

/-- LD_A_E, 7B (R130). -/
def execLd_A_E (s : State) : Result := ldRegReg .a .e s

/-- LD_A_H, 7C (R130). -/
def execLd_A_H (s : State) : Result := ldRegReg .a .h s

/-- LD_A_L, 7D (R130). -/
def execLd_A_L (s : State) : Result := ldRegReg .a .l s

/-- LD_A__HL, 7E (R131). -/
def execLd_A_atHL (s : State) : Result := ldRegHL .a s

/-- LD_A_A, 7F (R130). -/
def execLd_A_A (s : State) : Result := ldRegReg .a .a s

/-- LDH__n__A, E0 (R143). -/
def execLdh_atn_A (n : Byte) (s : State) : Result := ldhStore n s

/-- LD__C__A, E2 (R145). -/
def execLd_atC_A (s : State) : Result := ldCStore s

/-- LD__nn__A, EA (R147). -/
def execLd_atnn_A (nn : Word) (s : State) : Result := ldAbsStore nn s

/-- LDH_A__n, F0 (R144). -/
def execLdh_A_atn (n : Byte) (s : State) : Result := ldhLoad n s

/-- LD_A__C, F2 (R146). -/
def execLd_A_atC (s : State) : Result := ldCLoad s

/-- LD_A__nn, FA (R148). -/
def execLd_A_atnn (nn : Word) (s : State) : Result := ldAbsLoad nn s

end Sys2Proof.Machine
end

