-- ==== Sys2Proof/Machine/Misc.lean ====
section
/-! DEFINITION. NOP, HALT, STOP, DI, EI and the eleven unused bytes (47_misc.md). -/

namespace Sys2Proof.Machine

open Sys2Proof

/-- Nothing after the fetch: NOP (R290), and HALT, DI and EI, which the spec makes no-ops of this
block (R291, R293, R294). -/
def noEffect (s : State) : Result := .next s

/-- STOP (R292): raises `Stop(pc_op)`. -/
def stop (s : State) : Result := raiseFault .stop s

/-- An unused first byte (R295): raises `IllegalOpcode(op, pc_op)`. -/
def illegal (x : UnusedByte) (s : State) : Result := raiseFault (.illegalOpcode x.byte) s

/-- NOP, 00 (R290). -/
def execNop (s : State) : Result := noEffect s

/-- STOP, 10 (R292). -/
def execStop (s : State) : Result := stop s

/-- HALT, 76 (R291; a no-op of this block). -/
def execHalt (s : State) : Result := noEffect s

/-- ILLEGAL_D3, D3 (R295). -/
def execIllegal_D3 (s : State) : Result := illegal .xD3 s

/-- ILLEGAL_DB, DB (R295). -/
def execIllegal_DB (s : State) : Result := illegal .xDB s

/-- ILLEGAL_DD, DD (R295). -/
def execIllegal_DD (s : State) : Result := illegal .xDD s

/-- ILLEGAL_E3, E3 (R295). -/
def execIllegal_E3 (s : State) : Result := illegal .xE3 s

/-- ILLEGAL_E4, E4 (R295). -/
def execIllegal_E4 (s : State) : Result := illegal .xE4 s

/-- ILLEGAL_EB, EB (R295). -/
def execIllegal_EB (s : State) : Result := illegal .xEB s

/-- ILLEGAL_EC, EC (R295). -/
def execIllegal_EC (s : State) : Result := illegal .xEC s

/-- ILLEGAL_ED, ED (R295). -/
def execIllegal_ED (s : State) : Result := illegal .xED s

/-- DI, F3 (R293; a no-op of this block). -/
def execDi (s : State) : Result := noEffect s

/-- ILLEGAL_F4, F4 (R295). -/
def execIllegal_F4 (s : State) : Result := illegal .xF4 s

/-- EI, FB (R294; a no-op of this block). -/
def execEi (s : State) : Result := noEffect s

/-- ILLEGAL_FC, FC (R295). -/
def execIllegal_FC (s : State) : Result := illegal .xFC s

/-- ILLEGAL_FD, FD (R295). -/
def execIllegal_FD (s : State) : Result := illegal .xFD s

end Sys2Proof.Machine
end

