-- ==== Sys2Proof/Machine/Stack.lean ====
section
/-! DEFINITION. PUSH and POP (46_stack.md). -/

namespace Sys2Proof.Machine

open Sys2Proof

/-- `PUSH rr` (R280). -/
def pushPair (p : Rp2) (s : State) : Result := .next (s.push16 (s.getRp2 p))

/-- `POP rr` (R281, R282). -/
def popPair (p : Rp2) (s : State) : Result := .next (s.drop16.setRp2 p s.top16)

/-- POP_BC, C1 (R281). -/
def execPop_BC (s : State) : Result := popPair .bc s

/-- PUSH_BC, C5 (R280). -/
def execPush_BC (s : State) : Result := pushPair .bc s

/-- POP_DE, D1 (R281). -/
def execPop_DE (s : State) : Result := popPair .de s

/-- PUSH_DE, D5 (R280). -/
def execPush_DE (s : State) : Result := pushPair .de s

/-- POP_HL, E1 (R281). -/
def execPop_HL (s : State) : Result := popPair .hl s

/-- PUSH_HL, E5 (R280). -/
def execPush_HL (s : State) : Result := pushPair .hl s

/-- POP_AF, F1 (R282). -/
def execPop_AF (s : State) : Result := popPair .af s

/-- PUSH_AF, F5 (R280). -/
def execPush_AF (s : State) : Result := pushPair .af s

end Sys2Proof.Machine
end

