-- ==== Sys2Proof/Machine/Fetch.lean ====
section
/-! DEFINITION. Fetching an instruction (R10, R90, R101), and the bytes of an instruction put from
outside where the next fetch reads them. -/

namespace Sys2Proof.Machine

open Sys2Proof

/-- The instruction whose first byte is at pc: the bytes at pc, pc + 1 and pc + 2, the addresses
wrapping (R26). A fetch has no side effect (R70), so reading a byte the instruction does not have
changes nothing; the bytes after the first are not looked at unless the instruction has them. -/
def fetchInstr (s : State) : Instr :=
  decodeBytes (s.read8 s.pc) (s.read8 (s.pc + 1)) (s.read8 (s.pc + 2))

/-- pc after all bytes of that instruction are fetched (R26). -/
def fetchedPC (s : State) : Word := s.pc + BitVec.ofNat 16 (instrLength (s.read8 s.pc))

/-- Puts a byte into the cell an address resolves to, from outside the machine: no print and no
boot-latch effect, as the loader is not a bus access. The LCD line, the boot latch and an unmapped
address have no cell. -/
def Bus.placeByte (b : Bus) (addr : Word) (v : Byte) : Bus :=
  match resolve b.bootEn addr with
  | .boot i => { b with boot := Memory.store b.boot i v }
  | .cart i => { b with cart := Memory.store b.cart i v }
  | .vram i => { b with vram := Memory.store b.vram i v }
  | .wram i => { b with wram := Memory.store b.wram i v }
  | .io i => { b with io := Memory.store b.io i v }
  | .hram i => { b with hram := Memory.store b.hram i v }
  | .serialData => { b with serialData := v }
  | .serialCtrl => { b with serialCtrl := v }
  | .lcdLine => b
  | .bootLatch => b
  | .unmapped => b

/-- Puts bytes at rising addresses. -/
def Bus.placeBytes (b : Bus) (addr : Word) : List Byte → Bus
  | [] => b
  | v :: vs => (b.placeByte addr v).placeBytes (addr + 1) vs

/-- The three bytes that the table's word `w` of `nbits` bits begins: its own bytes, then zeros. -/
def wordBytes (nbits w : Nat) : List Byte :=
  (tableBytes (nbits / 8) w ++ [0x00, 0x00, 0x00]).take 3

end Sys2Proof.Machine
end

