-- ==== Sys2Proof/Machine/Step.lean ====
section
/-! DEFINITION. One Step of the machine (R12), and a program word put where the next Step fetches. -/

namespace Sys2Proof.Machine

open Sys2Proof

/-- One Step (R12): fetch, decode, execute. A state whose fault latch is set takes no Step (R305): the
machine has stopped with the fault the latch records. -/
def step (s : State) : Host.Outcome State Fault Refusal :=
  match s.fault with
  | some r => .fault r
  | none => exec (fetchInstr s) (s.setPC (fetchedPC s))

/-- The state with the instruction `w` of `nbits` bits at pc, padded with zero bytes, and no latched
fault, so that the next Step fetches and runs it (log 4). Where pc is at an address without a cell
nothing can be placed. -/
def State.withFetchWord (s : State) (nbits w : Nat) : State :=
  { s with bus := s.bus.placeBytes s.pc (wordBytes nbits w), fault := none }

end Sys2Proof.Machine
end

