-- ==== Sys2Proof/Safety.lean ====
section
/-! DEFINITION. The terms in which claims are made: what a safe run is, what an encoding is, and what an
instruction leaves as it was. -/

namespace Sys2Proof.Machine

open Sys2Proof

/-! ### Safe runs -/

/-- The eleven first bytes that select no instruction (R107). -/
def unusedBytes : List Byte :=
  [0xD3, 0xDB, 0xDD, 0xE3, 0xE4, 0xEB, 0xEC, 0xED, 0xF4, 0xFC, 0xFD]

/-- The twelve faulting first bytes (R305): the unused ones, and STOP. -/
def faultBytes : List Byte := 0x10 :: unusedBytes

/-- A state in which a Step is offered: no fault is latched (R12, R305). -/
def Running (s : State) : Prop := s.fault = none

/-- The next Step raises no fault: pc is not at a faulting byte (R305). -/
def SafeStep (s : State) : Prop := s.read8 s.pc ∉ faultBytes

/-- `t` is reached from `s` by Steps. -/
inductive Reaches : State → State → Prop where
  | refl (s : State) : Reaches s s
  | step (s t u : State) : Machine.step s = .next t → Reaches t u → Reaches s u

/-- A start from which no run ever reaches a faulting byte. -/
def SafeFrom (s : State) : Prop := ∀ t, Reaches s t → Running t ∧ SafeStep t

/-! ### Encodings -/

/-- `bytes` is the encoding of `i`: the encoder gives these bytes, and the decoder reads exactly `i` from
them, whatever follows. -/
def EncodedAs (i : Instr) (bytes : List Byte) : Prop :=
  encode i = bytes ∧ ∀ rest, decode (bytes ++ rest) = .ok (i, rest)

/-! ### Frames. `s` is the state an instruction starts from and `t` the one it leaves. -/

/-- Every general register but those listed is as it was. -/
def RegsKeptBut (changed : List Reg8) (s t : State) : Prop :=
  ∀ r, r ∉ changed → t.getReg r = s.getReg r

/-- All seven general registers are as they were. -/
def RegsKept (s t : State) : Prop := RegsKeptBut [] s t

/-- The four flags are as they were. -/
def FlagsKept (s t : State) : Prop := t.f = s.f

/-- SP is as it was. -/
def SPKept (s t : State) : Prop := t.sp = s.sp

/-- pc is as it was: in `exec`, after the whole instruction; so the instruction transfers no control. -/
def PCKept (s t : State) : Prop := t.pc = s.pc

/-- The fault latch is as it was: the instruction raises no fault. -/
def FaultKept (s t : State) : Prop := t.fault = s.fault

/-- Nothing is stored: every address reads as before, and the serial output and the boot latch are as
they were. -/
def MemoryKept (s t : State) : Prop :=
  (∀ a, t.read8 a = s.read8 a) ∧ t.bus.serialOut = s.bus.serialOut ∧ t.bus.bootEn = s.bus.bootEn ∧
    t.bus = s.bus

/-- A byte stored at `x` may change what `a` reads as: both resolve to one target (R51, so the two
names of a work-RAM cell do), or `x` is the boot-ROM disable address (R62) and `a` is in the boot-ROM
window (R55). -/
def Touches (b : Bus) (x a : Word) : Prop :=
  resolve b.bootEn a = resolve b.bootEn x ∨ (x = 0xFF50 ∧ a.toNat ≤ 0x00FF)

/-- The bytes stored are those at the addresses `xs`, and no other address reads otherwise than
before. -/
def StoredOnlyAt (xs : List Word) (s t : State) : Prop :=
  ∀ a, (∀ x ∈ xs, ¬ Touches s.bus x a) → t.read8 a = s.read8 a

/-- `t` has the memory of `s` after `MemWrite(x, 1, v)` (R53), and no other address reads otherwise. -/
def StoredByte (x : Word) (v : Byte) (s t : State) : Prop :=
  t.bus = s.bus.write8 x v ∧ StoredOnlyAt [x] s t

/-- `t` has the memory of `s` after `MemWrite(x, 2, v)` (R67), and no other address reads otherwise. -/
def StoredWord (x : Word) (v : Word) (s t : State) : Prop :=
  t.bus = s.bus.write16 x v ∧ StoredOnlyAt [x, x + 1] s t

/-- The operand `o` received the byte `v` and nothing else among the registers and in memory changed: a
register takes it, or the byte at the old HL is stored and every register is as it was. -/
def OperandGets (o : Operand8) (v : Byte) (s t : State) : Prop :=
  match o with
  | .reg r => t.getReg r = v ∧ RegsKeptBut [r] s t ∧ MemoryKept s t
  | .atHL => RegsKept s t ∧ StoredByte s.hl v s t

/-! ### Results that several instructions share, written from the rules' own arithmetic -/

/-- What ADD, ADC leave in A and in the flags, from the operand `v` and the carry in (R170), and that
nothing else changes. -/
def AddedToA (v : Byte) (cin : Nat) (s t : State) : Prop :=
  t.regs.a = BitVec.ofNat 8 (s.regs.a.toNat + v.toNat + cin) ∧
  t.f = { z := decide ((s.regs.a.toNat + v.toNat + cin) % 256 = 0), n := false,
          h := decide (s.regs.a.toNat % 16 + v.toNat % 16 + cin > 0x0F),
          c := decide (s.regs.a.toNat + v.toNat + cin > 0xFF) } ∧
  RegsKeptBut [.a] s t ∧ SPKept s t ∧ PCKept s t ∧ MemoryKept s t ∧ FaultKept s t

/-- The flags of a subtraction from A of `v` and the borrow in (R171). -/
def SubtractionFlags (v : Byte) (bin : Nat) (s t : State) : Prop :=
  t.f = { z := decide (((s.regs.a.toNat : Int) - v.toNat - bin) % 256 = 0), n := true,
          h := decide (s.regs.a.toNat % 16 < v.toNat % 16 + bin),
          c := decide (s.regs.a.toNat < v.toNat + bin) }

/-- What SUB, SBC leave in A and in the flags (R171), and that nothing else changes. -/
def SubtractedFromA (v : Byte) (bin : Nat) (s t : State) : Prop :=
  (t.regs.a.toNat : Int) = ((s.regs.a.toNat : Int) - v.toNat - bin) % 256 ∧
  SubtractionFlags v bin s t ∧
  RegsKeptBut [.a] s t ∧ SPKept s t ∧ PCKept s t ∧ MemoryKept s t ∧ FaultKept s t

/-- What CP leaves: the flags of SUB, and everything else as it was (R196). -/
def ComparedWithA (v : Byte) (s t : State) : Prop :=
  SubtractionFlags v 0 s t ∧ RegsKept s t ∧ SPKept s t ∧ PCKept s t ∧ MemoryKept s t ∧ FaultKept s t

/-- What AND, XOR, OR leave: the result `res` in A, Z from it, N and Cf 0, Hf as given (R172 to R174). -/
def LogicInA (res : Byte) (hf : Bool) (s t : State) : Prop :=
  t.regs.a = res ∧ t.f = { z := decide (res = 0), n := false, h := hf, c := false } ∧
  RegsKeptBut [.a] s t ∧ SPKept s t ∧ PCKept s t ∧ MemoryKept s t ∧ FaultKept s t

/-- The result `res` and carry `c` of an accumulator rotate in A and the flags, Z = 0 (R228). -/
def RotatedA (res : Nat) (c : Bool) (s t : State) : Prop :=
  t.regs.a = BitVec.ofNat 8 res ∧ t.f = { z := false, n := false, h := false, c := c } ∧
  RegsKeptBut [.a] s t ∧ SPKept s t ∧ PCKept s t ∧ MemoryKept s t ∧ FaultKept s t

/-- The result `res` and carry `c` of a CB-prefixed rotate or shift in its operand and the flags,
Z from the result (R232, R233). -/
def RotatedOperand (o : Operand8) (res : Nat) (c : Bool) (s t : State) : Prop :=
  OperandGets o (BitVec.ofNat 8 res) s t ∧
  t.f = { z := decide (BitVec.ofNat 8 res = 0), n := false, h := false, c := c } ∧
  SPKept s t ∧ PCKept s t ∧ FaultKept s t

/-- Nothing but pc changed. -/
def OnlyPC (s t : State) : Prop :=
  RegsKept s t ∧ FlagsKept s t ∧ SPKept s t ∧ MemoryKept s t ∧ FaultKept s t

/-- The return address `s.pc` is pushed: SP moves down by 2 and the two bytes are stored at the new SP;
the registers, the flags and the latch are as they were. -/
def PushedPC (s t : State) : Prop :=
  t.sp = s.sp - 2 ∧ StoredWord (s.sp - 2) s.pc s t ∧ RegsKept s t ∧ FlagsKept s t ∧ FaultKept s t

/-- pc is popped: read at the old SP, which moves up by 2; nothing else changes. -/
def PoppedPC (s t : State) : Prop :=
  t.pc.toNat = 256 * (s.read8 (s.sp + 1)).toNat + (s.read8 s.sp).toNat ∧ t.sp = s.sp + 2 ∧
  RegsKept s t ∧ FlagsKept s t ∧ MemoryKept s t ∧ FaultKept s t

/-! ### Targets and outputs -/

/-- A target of R51 that holds a byte: any but the LCD line, the boot latch and Unmapped. -/
def Target.isCell : Target → Bool
  | .lcdLine | .bootLatch | .unmapped => false
  | _ => true

/-- `s` with another record of what was printed so far. -/
def State.withOut (s : State) (o : List Byte) : State := { s with bus := { s.bus with serialOut := o } }

end Sys2Proof.Machine

namespace Sys2Proof

open Sys2Proof.Machine

/-! ### Which instructions write what (the table of R27, and the lists of R25 and R26) -/

/-- The row of R27 for an accumulator operation: what it forces in the flags after it. -/
def AluOp.flagRow (op : AluOp) (new : Flags) : Prop :=
  match op with
  | .add | .adc => new.n = false
  | .sub | .sbc | .cp => new.n = true
  | .and => new.n = false ∧ new.h = true ∧ new.c = false
  | .xor | .or => new.n = false ∧ new.h = false ∧ new.c = false

/-- The row of R27 for a form: the flags it forces and the flags it keeps. A form of no row keeps all
four. The prefix byte alone is no instruction of the table. -/
def Form.flagRow (f : Form) (old new : Flags) : Prop :=
  match f with
  | .prefixCB => True
  | .ldHLSP _ => new.z = false ∧ new.n = false
  | .alu op _ => op.flagRow new
  | .aluImm op _ => op.flagRow new
  | .inc _ => new.n = false ∧ new.c = old.c
  | .dec _ => new.n = true ∧ new.c = old.c
  | .daa => new.n = old.n ∧ new.h = false
  | .cpl => new.z = old.z ∧ new.n = true ∧ new.h = true ∧ new.c = old.c
  | .scf => new.z = old.z ∧ new.n = false ∧ new.h = false ∧ new.c = true
  | .ccf => new.z = old.z ∧ new.n = false ∧ new.h = false
  | .addHL _ => new.z = old.z ∧ new.n = false
  | .addSP _ => new.z = false ∧ new.n = false
  | .rotA _ => new.z = false ∧ new.n = false ∧ new.h = false
  | .rot op _ => new.n = false ∧ new.h = false ∧ (op = .swap → new.c = false)
  | .bit _ _ => new.n = false ∧ new.h = true ∧ new.c = old.c
  | .pop p => p ≠ .af → new = old
  | .nop | .halt | .stop | .di | .ei | .illegal _ | .ldRegReg _ _ | .ldRegHL _ | .ldHLReg _
  | .ldRegImm _ _ | .ldHLImm _ | .storeA _ | .loadA _ | .ldhStore _ | .ldhLoad _ | .ldCStore
  | .ldCLoad | .ldAbsStore _ | .ldAbsLoad _ | .ldRpImm _ _ | .ldAbsSP _ | .ldSPHL | .incRp _
  | .decRp _ | .res _ _ | .set _ _ | .jp _ | .jpIf _ _ | .jpHL | .jr _ | .jrIf _ _ | .call _
  | .callIf _ _ | .ret | .retIf _ | .reti | .rst _ | .push _ => new = old

/-- The control-transfer instructions (45_control.md), the only ones but the faults that write pc after
the fetch (R26). -/
def Form.writesPC : Form → Bool
  | .stop => true
  | .illegal _ => true
  | .prefixCB => true
  | .jp _ => true
  | .jpIf _ _ => true
  | .jpHL => true
  | .jr _ => true
  | .jrIf _ _ => true
  | .call _ => true
  | .callIf _ _ => true
  | .ret => true
  | .retIf _ => true
  | .reti => true
  | .rst _ => true
  | .nop | .halt | .di | .ei | .ldRegReg _ _ | .ldRegHL _ | .ldHLReg _ | .ldRegImm _ _
  | .ldHLImm _ | .storeA _ | .loadA _ | .ldhStore _ | .ldhLoad _ | .ldCStore | .ldCLoad
  | .ldAbsStore _ | .ldAbsLoad _ | .ldRpImm _ _ | .ldAbsSP _ | .ldSPHL | .ldHLSP _ | .alu _ _
  | .aluImm _ _ | .inc _ | .dec _ | .daa | .cpl | .scf | .ccf | .addHL _ | .addSP _ | .incRp _
  | .decRp _ | .rotA _ | .rot _ _ | .bit _ _ | .res _ _ | .set _ _ | .push _ | .pop _ => false

/-- The instructions that write SP (R25). -/
def Form.writesSP : Form → Bool
  | .ldRpImm p _ => p == .sp
  | .ldSPHL => true
  | .addSP _ => true
  | .incRp p => p == .sp
  | .decRp p => p == .sp
  | .call _ => true
  | .callIf _ _ => true
  | .ret => true
  | .retIf _ => true
  | .reti => true
  | .rst _ => true
  | .push _ => true
  | .pop _ => true
  | .nop | .halt | .stop | .di | .ei | .illegal _ | .prefixCB | .ldRegReg _ _ | .ldRegHL _
  | .ldHLReg _ | .ldRegImm _ _ | .ldHLImm _ | .storeA _ | .loadA _ | .ldhStore _ | .ldhLoad _
  | .ldCStore | .ldCLoad | .ldAbsStore _ | .ldAbsLoad _ | .ldAbsSP _ | .ldHLSP _ | .alu _ _
  | .aluImm _ _ | .inc _ | .dec _ | .daa | .cpl | .scf | .ccf | .addHL _ | .rotA _ | .rot _ _
  | .bit _ _ | .res _ _ | .set _ _ | .jp _ | .jpIf _ _ | .jpHL | .jr _ | .jrIf _ _ => false

/-- The forms that store to memory: those whose rule has a `MemWrite` or a `Push16`. -/
def Form.stores : Form → Bool
  | .prefixCB => true
  | .ldHLReg _ => true
  | .ldHLImm _ => true
  | .storeA _ => true
  | .ldhStore _ => true
  | .ldCStore => true
  | .ldAbsStore _ => true
  | .ldAbsSP _ => true
  | .inc o => o == .atHL
  | .dec o => o == .atHL
  | .rot _ o => o == .atHL
  | .res _ o => o == .atHL
  | .set _ o => o == .atHL
  | .call _ => true
  | .callIf _ _ => true
  | .rst _ => true
  | .push _ => true
  | .nop | .halt | .stop | .di | .ei | .illegal _ | .ldRegReg _ _ | .ldRegHL _ | .ldRegImm _ _
  | .loadA _ | .ldhLoad _ | .ldCLoad | .ldAbsLoad _ | .ldRpImm _ _ | .ldSPHL | .ldHLSP _
  | .alu _ _ | .aluImm _ _ | .daa | .cpl | .scf | .ccf | .addHL _ | .addSP _ | .incRp _
  | .decRp _ | .rotA _ | .bit _ _ | .jp _ | .jpIf _ _ | .jpHL | .jr _ | .jrIf _ _ | .ret
  | .retIf _ | .reti | .pop _ => false

end Sys2Proof
end

