-- ==== Sys2Proof/Certificates/Slice0/Obligations.lean ====
section
/-! DEFINITION. The statements for the provers. A statement about an instruction is about
`exec i s`, where `s` is the state with pc after the whole instruction (R26); `Obligations.StepRunsDecoded`
ties it to a Step. -/

open Sys2Proof Sys2Proof.Machine

/-! ### Reset -/

/-- R36 to R39: reset, for every choice of the parameters of R4. -/
def Obligations.ResetState : Prop :=
  ∀ p : ResetParams,
    (p.bootMode = .skipBoot →
      (State.resetWith p).regs =
        { a := 0x01, b := 0x00, c := 0x13, d := 0x00, e := 0xD8, h := 0x01, l := 0x4D } ∧
      (State.resetWith p).f = { z := true, n := false, h := true, c := true } ∧
      (State.resetWith p).f.toByte = 0xB0 ∧
      (State.resetWith p).getRp .bc = 0x0013 ∧ (State.resetWith p).getRp .de = 0x00D8 ∧
      (State.resetWith p).getRp .hl = 0x014D ∧
      (State.resetWith p).pc = 0x0100 ∧ (State.resetWith p).sp = 0xFFFE ∧
      (State.resetWith p).bus.bootEn = false) ∧
    (p.bootMode = .runBoot →
      (State.resetWith p).regs =
        { a := 0x00, b := 0x00, c := 0x00, d := 0x00, e := 0x00, h := 0x00, l := 0x00 } ∧
      (State.resetWith p).f = { z := false, n := false, h := false, c := false } ∧
      (State.resetWith p).f.toByte = 0x00 ∧
      (State.resetWith p).sp = 0x0000 ∧ (State.resetWith p).pc = 0x0000 ∧
      (State.resetWith p).bus.bootEn = true ∧
      resolve (State.resetWith p).bus.bootEn (State.resetWith p).pc = .boot 0 ∧
      (State.resetWith p).read8 (State.resetWith p).pc = Memory.load p.bootRom 0) ∧
    (State.resetWith p).bus.boot = p.bootRom ∧ (State.resetWith p).bus.cart = p.cartRom ∧
    (State.resetWith p).bus.vram = p.vramInit ∧ (State.resetWith p).bus.wram = p.wramInit ∧
    (State.resetWith p).bus.io = p.ioInit ∧ (State.resetWith p).bus.hram = p.hramInit ∧
    (State.resetWith p).bus.serialData = p.serialDataInit ∧
    (State.resetWith p).bus.serialCtrl = p.serialCtrlInit ∧
    (State.resetWith p).bus.serialOut = [] ∧ (State.resetWith p).fault = none

/-- The model's own choice of parameters (log 1 and log 2, DESIGN CHOICE): `State.reset` is the
`SkipBoot` reset with nothing listed, so every address reads 0x00 but the LCD line; every reset from
parameters in canonical form starts in the invariant of `BusStaysCanonical`. -/
def Obligations.ModelReset : Prop :=
  Config.resetParams.bootMode = .skipBoot ∧ State.reset = State.resetWith Config.resetParams ∧
  (∀ a : Word, a ≠ 0xFF44 → State.reset.read8 a = 0x00) ∧
  (∀ p : ResetParams, p.wf = true → (State.resetWith p).bus.wf = true) ∧
  State.reset.bus.wf = true

/-! ### Decoding and encoding -/

/-- Words written out from the spec's encodings, one or more of each family (40_load8.md to
47_misc.md, and the document's own bytes). -/
def Obligations.WrittenWordsDecode : Prop :=
  decode [0b01000111] = .ok (.ld_B_A, []) ∧
  decode [0b01111110] = .ok (.ld_A_atHL, []) ∧
  decode [0b00111110, 0x7F] = .ok (.ld_A_n 0x7F, []) ∧
  decode [0b11101010, 0x00, 0xC0] = .ok (.ld_atnn_A 0xC000, []) ∧
  decode [0b00100001, 0x4D, 0x01] = .ok (.ld_HL_nn 0x014D, []) ∧
  decode [0b11111000, 0xFE] = .ok (.ld_HL_SPe 0xFE, []) ∧
  decode [0b10000001] = .ok (.add_A_C, []) ∧
  decode [0b11011110, 0x0F] = .ok (.sbc_A_n 0x0F, []) ∧
  decode [0b00110101] = .ok (.dec_atHL, []) ∧
  decode [0b00111001] = .ok (.add_HL_SP, []) ∧
  decode [0b00001011] = .ok (.dec_BC, []) ∧
  decode [0b00011111] = .ok (.rra, []) ∧
  decode [0b11001011, 0b00110110] = .ok (.swap_atHL, []) ∧
  decode [0b11001011, 0b01111000] = .ok (.bit_7_B, []) ∧
  decode [0b11001011, 0b11001011] = .ok (.set_1_E, []) ∧
  decode [0b11000011, 0x00, 0x02] = .ok (.jp_nn 0x0200, []) ∧
  decode [0b00111000, 0xFB] = .ok (.jr_C_e 0xFB, []) ∧
  decode [0b11001101, 0x50, 0x01] = .ok (.call_nn 0x0150, []) ∧
  decode [0b11101111] = .ok (.rst_28, []) ∧
  decode [0b11110101] = .ok (.push_AF, []) ∧
  decode [0b01110110] = .ok (.halt, []) ∧
  decode [0b00010000] = .ok (.stop, []) ∧
  decode [0b11010011] = .ok (.illegal_D3, [])

/-- Every well-formed instruction, with every value of its immediate, is read back from its encoding,
whatever bytes follow. -/
def Obligations.DecodeOfEncode : Prop :=
  ∀ (i : Instr) (rest : List Byte), i.wellFormed = true → decode (encode i ++ rest) = .ok (i, rest)

/-- What the decoder reads is exactly what the encoder writes: no two byte sequences are one
instruction, and no byte of a sequence is dropped. -/
def Obligations.EncodeOfDecode : Prop :=
  ∀ (bytes rest : List Byte) (i : Instr), decode bytes = .ok (i, rest) → bytes = encode i ++ rest

/-- R103, R104: blocks 1 and 2, by the fields of the byte. -/
def Obligations.BlocksOneAndTwo : Prop :=
  (∀ (dst src : Reg8) (rest : List Byte),
    decode (BitVec.ofNat 8 (0x40 + 8 * dst.index + src.index) :: rest) =
      .ok ((Form.ldRegReg dst src).instr, rest)) ∧
  (∀ (dst : Reg8) (rest : List Byte),
    decode (BitVec.ofNat 8 (0x40 + 8 * dst.index + 6) :: rest) = .ok ((Form.ldRegHL dst).instr, rest)) ∧
  (∀ (src : Reg8) (rest : List Byte),
    decode (BitVec.ofNat 8 (0x40 + 8 * 6 + src.index) :: rest) = .ok ((Form.ldHLReg src).instr, rest)) ∧
  (∀ rest : List Byte, decode (BitVec.ofNat 8 (0x40 + 8 * 6 + 6) :: rest) = .ok (.halt, rest)) ∧
  (∀ (op : AluOp) (o : Operand8) (rest : List Byte),
    decode (BitVec.ofNat 8 (0x80 + 8 * op.index + o.index) :: rest) =
      .ok ((Form.alu op o).instr, rest))

/-- R106: the CB page, `cb = 64 * sub + 8 * b + r`; all 256 second bytes are defined. -/
def Obligations.CBPage : Prop :=
  (∀ (op : RotOp) (o : Operand8) (rest : List Byte),
    decode (0xCB :: BitVec.ofNat 8 (8 * op.index + o.index) :: rest) =
      .ok ((Form.rot op o).instr, rest)) ∧
  (∀ (b : BitIdx) (o : Operand8) (rest : List Byte),
    decode (0xCB :: BitVec.ofNat 8 (64 + 8 * b.index + o.index) :: rest) =
      .ok ((Form.bit b o).instr, rest) ∧
    decode (0xCB :: BitVec.ofNat 8 (128 + 8 * b.index + o.index) :: rest) =
      .ok ((Form.res b o).instr, rest) ∧
    decode (0xCB :: BitVec.ofNat 8 (192 + 8 * b.index + o.index) :: rest) =
      .ok ((Form.set b o).instr, rest)) ∧
  (∀ (cb : Byte) (rest : List Byte), ∃ (k : Fin 8) (o : Operand8) (op : RotOp) (b : BitIdx),
    op.index = k ∧ b.index = k ∧
    (cb = BitVec.ofNat 8 (8 * k + o.index) ∨ cb = BitVec.ofNat 8 (64 + 8 * k + o.index) ∨
      cb = BitVec.ofNat 8 (128 + 8 * k + o.index) ∨ cb = BitVec.ofNat 8 (192 + 8 * k + o.index)) ∧
    ∃ i, decode (0xCB :: cb :: rest) = .ok (i, rest))

/-- R109: the length follows from the first byte alone, and a condition that does not hold changes
nothing after the operands are consumed. -/
def Obligations.LengthFromFirstByte : Prop :=
  (∀ (b0 b1 b2 : Byte) (rest : List Byte), ∃ i left,
    decode (b0 :: b1 :: b2 :: rest) = .ok (i, left) ∧
    left = (b0 :: b1 :: b2 :: rest).drop
      (if b0 ∈ ([0x01, 0x11, 0x21, 0x31, 0x08, 0xC2, 0xCA, 0xD2, 0xDA, 0xC3, 0xC4, 0xCC, 0xD4, 0xDC,
          0xCD, 0xEA, 0xFA] : List Byte) then 3
       else if b0 ∈ ([0x06, 0x0E, 0x16, 0x1E, 0x26, 0x2E, 0x36, 0x3E, 0x18, 0x20, 0x28, 0x30, 0x38,
          0xC6, 0xCE, 0xD6, 0xDE, 0xE6, 0xEE, 0xF6, 0xFE, 0xE0, 0xF0, 0xE8, 0xF8, 0xCB] : List Byte) then 2
       else 1)) ∧
  (∀ (cc : Cond) (nn : Word) (e : Byte) (s : State), condHolds s.f cc = false →
    exec (Form.jpIf cc nn).instr s = .next s ∧ exec (Form.jrIf cc e).instr s = .next s ∧
    exec (Form.callIf cc nn).instr s = .next s ∧ exec (Form.retIf cc).instr s = .next s) ∧
  (∀ (cb : Byte) (rest : List Byte), ∃ f : Form,
    decode (0xCB :: cb :: rest) = .ok (f.instr, rest) ∧ f.instr ≠ .prefix_CB ∧ encode f.instr = [0xCB, cb]) ∧
  decode [0xCB, 0xCB] = .ok (.set_1_E, [])

/-! ### A Step -/

/-- A Step of a running state is `exec` of the instruction its bytes decode to, at the state with pc
moved past the instruction's bytes (R10, R12, R26). -/
def Obligations.StepRunsDecoded : Prop :=
  ∀ (s : State) (i : Instr) (rest : List Byte), s.fault = none →
    decode [s.read8 s.pc, s.read8 (s.pc + 1), s.read8 (s.pc + 2)] = .ok (i, rest) →
    i.wellFormed = true →
      step s = exec i { s with pc := s.pc + BitVec.ofNat 16 (3 - rest.length) }

/-- The same from the encoder's side (R10, R26): where the bytes of a well-formed instruction stand at
pc, the addresses wrapping, a Step runs it with pc after them. -/
def Obligations.StepRunsEncoded : Prop :=
  ∀ (s : State) (i : Instr), s.fault = none → i.wellFormed = true →
    (∀ (k : Nat) (h : k < (encode i).length), s.read8 (s.pc + BitVec.ofNat 16 k) = (encode i)[k]) →
      step s = exec i { s with pc := s.pc + BitVec.ofNat 16 (encode i).length }

/-- R101: the prefix and the second byte are one instruction and one Step; and the prefix byte taken on
its own fetches the second byte and runs it (the meaning of the row PREFIX CB: log 5, DEDUCED). -/
def Obligations.PrefixOneInstruction : Prop :=
  (∀ s : State, s.fault = none → s.read8 s.pc = 0xCB →
    ∃ (i : Instr) (t : State), decode [0xCB, s.read8 (s.pc + 1)] = .ok (i, []) ∧ i ≠ .prefix_CB ∧
      step s = .next t ∧ exec i { s with pc := s.pc + 2 } = .next t ∧ t.pc = s.pc + 2) ∧
  (∀ s : State, ∃ (i : Instr) (t : State), decode [0xCB, s.read8 s.pc] = .ok (i, []) ∧
    i ≠ .prefix_CB ∧ exec .prefix_CB s = .next t ∧ exec i { s with pc := s.pc + 1 } = .next t)

/-- R301, R308: every Step of a running state ends, and it has raised a fault exactly when its first byte
is one of the twelve. That the raising Step answers a next state, with the latch set, is the model's
choice (log 3, DEDUCED): R12 gives `raise` as the other outcome of a Step. -/
def Obligations.StepAlwaysAnswers : Prop :=
  ∀ s : State, s.fault = none →
    ∃ t, step s = .next t ∧ (t.fault ≠ none ↔ s.read8 s.pc ∈ faultBytes)

/-- R305: a fault is precise and terminal. That the raising Step answers the latched state as its next
state, and the Step after it the fault, is the model's choice (log 3, DEDUCED). -/
def Obligations.FaultPreciseTerminal : Prop :=
  (∀ s : State, s.fault = none → s.read8 s.pc ∈ faultBytes →
    ∃ r, step s = .next { s with fault := some r } ∧ step { s with fault := some r } = .fault r) ∧
  (∀ (s : State) (r : Fault), s.fault = some r → step s = .fault r) ∧
  (∀ (i : Instr) (s t : State), exec i s = .next t → s.fault ≠ none → t.fault ≠ none)

/-- R107, R295, R302: the eleven unused bytes, and nothing else, raise `IllegalOpcode(op, pc_op)`. That
`exec` and `step` answer the latched state as a next state is the model's choice (log 3, DEDUCED). -/
def Obligations.IllegalOpcode : Prop :=
  (∀ (x : UnusedByte), x.byte ∈ unusedBytes ∧ EncodedAs (Form.illegal x).instr [x.byte]) ∧
  (∀ (x : UnusedByte) (s : State), exec (Form.illegal x).instr s =
    .next { s with pc := s.pc - 1, fault := some (.illegalOpcode x.byte (s.pc - 1)) }) ∧
  (∀ (s : State) (op : Byte) (a : Word), s.fault = none →
    ((∃ t, step s = .next t ∧ t.fault = some (.illegalOpcode op a)) ↔
      (op ∈ unusedBytes ∧ s.read8 s.pc = op ∧ s.pc = a))) ∧
  (∀ s : State, s.fault = none → s.read8 s.pc ∈ unusedBytes →
    step s = .next { s with fault := some (.illegalOpcode (s.read8 s.pc) s.pc) }) ∧
  (∀ b0 b1 b2 : Byte, (∃ x : UnusedByte, decodeBytes b0 b1 b2 = (Form.illegal x).instr) ↔ b0 ∈ unusedBytes)

/-- R292, R303: the byte 0x10, and nothing else, raises `Stop(pc_op)`. That `exec` and `step` answer the
latched state as a next state is the model's choice (log 3, DEDUCED). -/
def Obligations.StopFault : Prop :=
  EncodedAs .stop [0x10] ∧
  (∀ s : State, exec .stop s = .next { s with pc := s.pc - 1, fault := some (.stop (s.pc - 1)) }) ∧
  (∀ (s : State) (a : Word), s.fault = none →
    ((∃ t, step s = .next t ∧ t.fault = some (.stop a)) ↔ (s.read8 s.pc = 0x10 ∧ s.pc = a))) ∧
  (∀ s : State, s.fault = none → s.read8 s.pc = 0x10 → step s = .next { s with fault := some (.stop s.pc) })

/-- R305's last sentence: a run from a running state raises no fault exactly when pc never reaches a
faulting byte as a first byte. That a fault shows as a latched state that a Step reaches, so that the left
side is about the states reached, is the model's choice (log 3, DEDUCED). -/
def Obligations.SafeRunIffNoFaultByte : Prop :=
  ∀ s : State, s.fault = none →
    ((∀ t, Reaches s t → t.fault = none) ↔ (∀ t, Reaches s t → t.fault = none → t.read8 t.pc ∉ faultBytes))

/-! ### Registers -/

/-- R21, R22: the pairs are views of their halves; F stores four bits. -/
def Obligations.PairViews : Prop :=
  (∀ (s : State) (v : Word),
    (s.setRp .bc v).getRp .bc = v ∧ (s.setRp .bc v).regs = { s.regs with b := hiByte v, c := loByte v } ∧
    (s.setRp .de v).getRp .de = v ∧ (s.setRp .de v).regs = { s.regs with d := hiByte v, e := loByte v } ∧
    (s.setRp .hl v).getRp .hl = v ∧ (s.setRp .hl v).regs = { s.regs with h := hiByte v, l := loByte v } ∧
    (s.setRp2 .af v).getRp2 .af = v &&& 0xFFF0 ∧ (s.setRp2 .af v).regs = { s.regs with a := hiByte v }) ∧
  (∀ s : State, s.getRp .bc = joinBytes s.regs.b s.regs.c ∧ s.getRp .de = joinBytes s.regs.d s.regs.e ∧
    s.getRp .hl = joinBytes s.regs.h s.regs.l ∧ s.getRp2 .af = joinBytes s.regs.a s.f.toByte) ∧
  (∀ (f : Flags) (k : Nat), f.toByte.getLsbD k =
    ((k == 7 && f.z) || (k == 6 && f.n) || (k == 5 && f.h) || (k == 4 && f.c))) ∧
  (∀ v : Byte, (Flags.ofByte v).toByte = v &&& 0xF0 ∧
    Flags.ofByte v = { z := v.getLsbD 7, n := v.getLsbD 6, h := v.getLsbD 5, c := v.getLsbD 4 })

/-- The table of R27: what each instruction forces in the flags and what it keeps; an instruction of no
row keeps all four. -/
def Obligations.FlagTable : Prop :=
  ∀ (i : Instr) (s t : State), exec i s = .next t → i.form.flagRow s.f t.f

/-- R25, R26, R70, R346: an instruction that the list of R25 or of R26 does not name leaves SP, or pc after
the fetch, as it was; and one whose rule has no `MemWrite` and no `Push16` leaves the whole bus as it
was. -/
def Obligations.WhoWritesWhat : Prop :=
  ∀ (i : Instr) (s t : State), exec i s = .next t →
    (i.form.writesPC = false → t.pc = s.pc) ∧
    (i.form.writesSP = false → i.wellFormed = true → t.sp = s.sp) ∧
    (i.form.stores = false → MemoryKept s t)

/-! ### The memory bus -/

/-- R51: what every address resolves to. -/
def Obligations.MemoryMap : Prop :=
  ∀ (e : Bool) (a : Word),
    (a.toNat ≤ 0x00FF → e = true → resolve e a = .boot a.toNat) ∧
    (a.toNat ≤ 0x00FF → e = false → resolve e a = .cart a.toNat) ∧
    (0x0100 ≤ a.toNat → a.toNat ≤ 0x7FFF → resolve e a = .cart a.toNat) ∧
    (0x8000 ≤ a.toNat → a.toNat ≤ 0x9FFF → resolve e a = .vram (a.toNat - 0x8000)) ∧
    (0xA000 ≤ a.toNat → a.toNat ≤ 0xBFFF → resolve e a = .unmapped) ∧
    (0xC000 ≤ a.toNat → a.toNat ≤ 0xDFFF → resolve e a = .wram (a.toNat - 0xC000)) ∧
    (0xE000 ≤ a.toNat → a.toNat ≤ 0xFDFF → resolve e a = .wram (a.toNat - 0xE000)) ∧
    (0xFE00 ≤ a.toNat → a.toNat ≤ 0xFEFF → resolve e a = .unmapped) ∧
    (a = 0xFF01 → resolve e a = .serialData) ∧
    (a = 0xFF02 → resolve e a = .serialCtrl) ∧
    (a = 0xFF44 → resolve e a = .lcdLine) ∧
    (a = 0xFF50 → resolve e a = .bootLatch) ∧
    (0xFF00 ≤ a.toNat → a.toNat ≤ 0xFF7F → a ≠ 0xFF01 → a ≠ 0xFF02 → a ≠ 0xFF44 → a ≠ 0xFF50 →
      resolve e a = .io (a.toNat - 0xFF00)) ∧
    (0xFF80 ≤ a.toNat → a.toNat ≤ 0xFFFE → resolve e a = .hram (a.toNat - 0xFF80)) ∧
    (a = 0xFFFF → resolve e a = .unmapped)

/-- R58, R61: the unmapped ranges and the LCD line. -/
def Obligations.UnmappedAndLcd : Prop :=
  (∀ (b : Bus) (a : Word) (v : Byte),
    (0xA000 ≤ a.toNat ∧ a.toNat ≤ 0xBFFF) ∨ (0xFE00 ≤ a.toNat ∧ a.toNat ≤ 0xFEFF) ∨ a = 0xFFFF →
      b.read8 a = 0x00 ∧ b.write8 a v = b) ∧
  (∀ (b : Bus) (v : Byte), b.read8 0xFF44 = 0x90 ∧ b.write8 0xFF44 v = b)

/-- R57: the work RAM and its mirror. -/
def Obligations.WorkRamMirror : Prop :=
  ∀ (b : Bus) (a : Word) (v : Byte), 0xC000 ≤ a.toNat → a.toNat ≤ 0xDFFF →
    (b.write8 a v).read8 a = v ∧
    (a.toNat ≤ 0xDDFF → b.read8 (a + 0x2000) = b.read8 a ∧ (b.write8 a v).read8 (a + 0x2000) = v ∧
      (b.write8 (a + 0x2000) v).read8 a = v ∧ (b.write8 (a + 0x2000) v).read8 (a + 0x2000) = v)

/-- R56, R59, R63, R65: video RAM, the ordinary cells of the I/O page, high RAM and the two ROM arrays are
plain storage: a read returns what was written, and nothing else changes. -/
def Obligations.PlainStorage : Prop :=
  (∀ (b : Bus) (a : Word) (v : Byte),
    a.toNat ≤ 0x9FFF ∨ (0xFF80 ≤ a.toNat ∧ a.toNat ≤ 0xFFFE) ∨
      (0xFF00 ≤ a.toNat ∧ a.toNat ≤ 0xFF7F ∧ a ≠ 0xFF02 ∧ a ≠ 0xFF44 ∧ a ≠ 0xFF50) →
    (b.write8 a v).read8 a = v ∧ (∀ x, x ≠ a → (b.write8 a v).read8 x = b.read8 x) ∧
    (b.write8 a v).serialOut = b.serialOut ∧ (b.write8 a v).bootEn = b.bootEn) ∧
  (∀ (b : Bus) (a : Word) (v : Byte), a.toNat ≤ 0x7FFF →
    b.write8 a v = (if a.toNat ≤ 0x00FF ∧ b.bootEn = true
      then { b with boot := Memory.store b.boot a.toNat v }
      else { b with cart := Memory.store b.cart a.toNat v }))

/-- R60: the serial print. -/
def Obligations.SerialPrint : Prop :=
  ∀ (b : Bus) (v : Byte),
    b.write8 0xFF02 v =
      { b with
        serialCtrl := v
        serialOut := if v = 0x81 then b.serialOut ++ [b.serialData] else b.serialOut } ∧
    b.write8 0xFF01 v = { b with serialData := v } ∧
    b.read8 0xFF01 = b.serialData ∧ b.read8 0xFF02 = b.serialCtrl ∧
    (∀ x : Word, x ≠ 0xFF02 → (b.write8 x v).serialOut = b.serialOut)

/-- R55, R62: the boot-ROM overlay and its disable. -/
def Obligations.BootOverlay : Prop :=
  (∀ (b : Bus) (v : Byte), b.write8 0xFF50 v = { b with bootEn := false } ∧ b.read8 0xFF50 = 0x00) ∧
  (∀ (b : Bus) (a : Word) (v : Byte), a.toNat ≤ 0x00FF → b.bootEn = true →
    b.read8 a = Memory.load b.boot a.toNat ∧
    (b.write8 a v) = { b with boot := Memory.store b.boot a.toNat v } ∧
    (b.write8 0xFF50 v).read8 a = Memory.load b.cart a.toNat) ∧
  (∀ (b : Bus) (a : Word) (v : Byte) (i : Nat), b.bootEn = true → i ≤ 0x00FF →
    resolve b.bootEn a ≠ .cart i ∧ Memory.load (b.write8 a v).cart i = Memory.load b.cart i) ∧
  (∀ (b : Bus) (m : Memory) (a : Word) (v : Byte), b.bootEn = false →
    ({ b with boot := m } : Bus).read8 a = b.read8 a ∧ (b.write8 a v).boot = b.boot)

/-- R66, R67: the 16-bit accesses; the one place where the order of the two writes shows. -/
def Obligations.TwoByteAccess : Prop :=
  (∀ (b : Bus) (a : Word), (b.read16 a).toNat = 256 * (b.read8 (a + 1)).toNat + (b.read8 a).toNat) ∧
  (∀ (b : Bus) (a v : Word), b.write16 a v =
    (b.write8 a (BitVec.ofNat 8 (v.toNat % 256))).write8 (a + 1) (BitVec.ofNat 8 (v.toNat / 256))) ∧
  (∀ (b : Bus) (v : Word), v.toNat / 256 = 0x81 →
    (b.write16 0xFF01 v).serialOut = b.serialOut ++ [BitVec.ofNat 8 (v.toNat % 256)])

/-- R72: after any sequence of byte writes, none to the boot latch, an address reads as the most recent of
them to the same target, through whichever address named it, and as before the sequence where there was
none. -/
def Obligations.MostRecentWrite : Prop :=
  ∀ (b : Bus) (ws : List (Word × Byte)) (a : Word), (∀ w ∈ ws, w.1 ≠ 0xFF50) →
    (ws.foldl (fun m w => m.write8 w.1 w.2) b).read8 a =
      ((ws.reverse.find? (fun w => decide (resolve b.bootEn w.1 = resolve b.bootEn a ∧
        (resolve b.bootEn a).isCell = true))).map Prod.snd).getD (b.read8 a)

/-- R29: the boot latch is one-way, and only a write to 0xFF50 clears it. -/
def Obligations.BootLatchOneWay : Prop :=
  (∀ (b : Bus) (x : Word) (v : Byte), (b.write8 x v).bootEn = (b.bootEn && decide (x ≠ 0xFF50))) ∧
  (∀ s t : State, step s = .next t → s.bus.bootEn = false → t.bus.bootEn = false) ∧
  (∀ s t : State, Reaches s t → s.bus.bootEn = false → t.bus.bootEn = false) ∧
  (∀ (e : Bool) (a : Word), a.toNat ≤ 0x00FF → (resolve e a = .boot a.toNat ↔ e = true)) ∧
  (∀ p : ResetParams, (State.resetWith p).bus.bootEn = true ↔ p.bootMode = .runBoot)

/-- R31: bytes are only ever appended to the serial output, and nothing in the block reads it: with
another record of what was printed, a Step does the same and appends the same. -/
def Obligations.SerialOutOnlyAppended : Prop :=
  ∀ s t : State, step s = .next t → ∃ l, t.bus.serialOut = s.bus.serialOut ++ l ∧
    ∀ o : List Byte, step (s.withOut o) = .next (t.withOut (o ++ l))

/-- R28: the four cells of the I/O array that no address resolves to cannot be observed. -/
def Obligations.HiddenIoCells : Prop :=
  (∀ (e : Bool) (a : Word), resolve e a ≠ .io 0x01 ∧ resolve e a ≠ .io 0x02 ∧ resolve e a ≠ .io 0x44 ∧
    resolve e a ≠ .io 0x50) ∧
  (∀ (b : Bus) (m : Memory), (∀ i, i ≠ 0x01 → i ≠ 0x02 → i ≠ 0x44 → i ≠ 0x50 →
    Memory.load m i = Memory.load b.io i) → ∀ a, ({ b with io := m } : Bus).read8 a = b.read8 a)

/-- Every Step keeps every memory array in its canonical form, at the sizes of R28. The form is the
model's choice (log 2, DESIGN CHOICE). -/
def Obligations.BusStaysCanonical : Prop :=
  ∀ s t : State, step s = .next t → s.bus.wf = true → t.bus.wf = true

/-! ### The 8-bit loads (40_load8.md) -/

/-- R130. -/
def Obligations.LoadRegReg : Prop :=
  ∀ (dst src : Reg8) (s : State),
    EncodedAs (Form.ldRegReg dst src).instr [BitVec.ofNat 8 (0x40 + 8 * dst.index + src.index)] ∧
    ∃ t, exec (Form.ldRegReg dst src).instr s = .next t ∧
      t.getReg dst = s.getReg src ∧ RegsKeptBut [dst] s t ∧ FlagsKept s t ∧ SPKept s t ∧ PCKept s t ∧
      MemoryKept s t ∧ FaultKept s t

/-- R131, R132. -/
def Obligations.LoadRegHL : Prop :=
  ∀ (r : Reg8) (s : State),
    (EncodedAs (Form.ldRegHL r).instr [BitVec.ofNat 8 (0x46 + 8 * r.index)] ∧
      ∃ t, exec (Form.ldRegHL r).instr s = .next t ∧
        t.getReg r = s.read8 s.hl ∧ RegsKeptBut [r] s t ∧ FlagsKept s t ∧ SPKept s t ∧ PCKept s t ∧
        MemoryKept s t ∧ FaultKept s t) ∧
    (EncodedAs (Form.ldHLReg r).instr [BitVec.ofNat 8 (0x70 + r.index)] ∧
      ∃ t, exec (Form.ldHLReg r).instr s = .next t ∧
        StoredByte s.hl (s.getReg r) s t ∧ RegsKept s t ∧ FlagsKept s t ∧ SPKept s t ∧ PCKept s t ∧
        FaultKept s t)

/-- R133, R134. -/
def Obligations.LoadImmediate : Prop :=
  ∀ (n : Byte) (s : State),
    (∀ r : Reg8, EncodedAs (Form.ldRegImm r n).instr [BitVec.ofNat 8 (0x06 + 8 * r.index), n] ∧
      ∃ t, exec (Form.ldRegImm r n).instr s = .next t ∧
        t.getReg r = n ∧ RegsKeptBut [r] s t ∧ FlagsKept s t ∧ SPKept s t ∧ PCKept s t ∧
        MemoryKept s t ∧ FaultKept s t) ∧
    (EncodedAs (Form.ldHLImm n).instr [0x36, n] ∧
      ∃ t, exec (Form.ldHLImm n).instr s = .next t ∧
        StoredByte s.hl n s t ∧ RegsKept s t ∧ FlagsKept s t ∧ SPKept s t ∧ PCKept s t ∧ FaultKept s t)

/-- R135 to R138. -/
def Obligations.StoreAIndirect : Prop :=
  ∀ s : State,
    (EncodedAs .ld_atBC_A [0x02] ∧ ∃ t, exec .ld_atBC_A s = .next t ∧
      StoredByte (s.getRp .bc) s.regs.a s t ∧ RegsKept s t ∧ FlagsKept s t ∧ SPKept s t ∧ PCKept s t ∧
      FaultKept s t) ∧
    (EncodedAs .ld_atDE_A [0x12] ∧ ∃ t, exec .ld_atDE_A s = .next t ∧
      StoredByte (s.getRp .de) s.regs.a s t ∧ RegsKept s t ∧ FlagsKept s t ∧ SPKept s t ∧ PCKept s t ∧
      FaultKept s t) ∧
    (EncodedAs .ld_atHLinc_A [0x22] ∧ ∃ t, exec .ld_atHLinc_A s = .next t ∧
      StoredByte s.hl s.regs.a s t ∧ t.hl = s.hl + 1 ∧ RegsKeptBut [.h, .l] s t ∧ FlagsKept s t ∧
      SPKept s t ∧ PCKept s t ∧ FaultKept s t) ∧
    (EncodedAs .ld_atHLdec_A [0x32] ∧ ∃ t, exec .ld_atHLdec_A s = .next t ∧
      StoredByte s.hl s.regs.a s t ∧ t.hl = s.hl - 1 ∧ RegsKeptBut [.h, .l] s t ∧ FlagsKept s t ∧
      SPKept s t ∧ PCKept s t ∧ FaultKept s t)

/-- R139 to R142. -/
def Obligations.LoadAIndirect : Prop :=
  ∀ s : State,
    (EncodedAs .ld_A_atBC [0x0A] ∧ ∃ t, exec .ld_A_atBC s = .next t ∧
      t.regs.a = s.read8 (s.getRp .bc) ∧ RegsKeptBut [.a] s t ∧ FlagsKept s t ∧ SPKept s t ∧
      PCKept s t ∧ MemoryKept s t ∧ FaultKept s t) ∧
    (EncodedAs .ld_A_atDE [0x1A] ∧ ∃ t, exec .ld_A_atDE s = .next t ∧
      t.regs.a = s.read8 (s.getRp .de) ∧ RegsKeptBut [.a] s t ∧ FlagsKept s t ∧ SPKept s t ∧
      PCKept s t ∧ MemoryKept s t ∧ FaultKept s t) ∧
    (EncodedAs .ld_A_atHLinc [0x2A] ∧ ∃ t, exec .ld_A_atHLinc s = .next t ∧
      t.regs.a = s.read8 s.hl ∧ t.hl = s.hl + 1 ∧ RegsKeptBut [.a, .h, .l] s t ∧ FlagsKept s t ∧
      SPKept s t ∧ PCKept s t ∧ MemoryKept s t ∧ FaultKept s t) ∧
    (EncodedAs .ld_A_atHLdec [0x3A] ∧ ∃ t, exec .ld_A_atHLdec s = .next t ∧
      t.regs.a = s.read8 s.hl ∧ t.hl = s.hl - 1 ∧ RegsKeptBut [.a, .h, .l] s t ∧ FlagsKept s t ∧
      SPKept s t ∧ PCKept s t ∧ MemoryKept s t ∧ FaultKept s t)

/-- R143 to R146. -/
def Obligations.LoadIoPage : Prop :=
  ∀ (n : Byte) (s : State),
    (EncodedAs (.ldh_atn_A n) [0xE0, n] ∧ ∃ t, exec (.ldh_atn_A n) s = .next t ∧
      StoredByte (BitVec.ofNat 16 (0xFF00 + n.toNat)) s.regs.a s t ∧ RegsKept s t ∧ FlagsKept s t ∧
      SPKept s t ∧ PCKept s t ∧ FaultKept s t) ∧
    (EncodedAs (.ldh_A_atn n) [0xF0, n] ∧ ∃ t, exec (.ldh_A_atn n) s = .next t ∧
      t.regs.a = s.read8 (BitVec.ofNat 16 (0xFF00 + n.toNat)) ∧ RegsKeptBut [.a] s t ∧ FlagsKept s t ∧
      SPKept s t ∧ PCKept s t ∧ MemoryKept s t ∧ FaultKept s t) ∧
    (EncodedAs .ld_atC_A [0xE2] ∧ ∃ t, exec .ld_atC_A s = .next t ∧
      StoredByte (BitVec.ofNat 16 (0xFF00 + s.regs.c.toNat)) s.regs.a s t ∧ RegsKept s t ∧
      FlagsKept s t ∧ SPKept s t ∧ PCKept s t ∧ FaultKept s t) ∧
    (EncodedAs .ld_A_atC [0xF2] ∧ ∃ t, exec .ld_A_atC s = .next t ∧
      t.regs.a = s.read8 (BitVec.ofNat 16 (0xFF00 + s.regs.c.toNat)) ∧ RegsKeptBut [.a] s t ∧
      FlagsKept s t ∧ SPKept s t ∧ PCKept s t ∧ MemoryKept s t ∧ FaultKept s t)

/-- R147, R148. -/
def Obligations.LoadAbsolute : Prop :=
  ∀ (nn : Word) (s : State),
    (EncodedAs (.ld_atnn_A nn) [0xEA, loByte nn, hiByte nn] ∧ ∃ t, exec (.ld_atnn_A nn) s = .next t ∧
      StoredByte nn s.regs.a s t ∧ RegsKept s t ∧ FlagsKept s t ∧ SPKept s t ∧ PCKept s t ∧
      FaultKept s t) ∧
    (EncodedAs (.ld_A_atnn nn) [0xFA, loByte nn, hiByte nn] ∧ ∃ t, exec (.ld_A_atnn nn) s = .next t ∧
      t.regs.a = s.read8 nn ∧ RegsKeptBut [.a] s t ∧ FlagsKept s t ∧ SPKept s t ∧ PCKept s t ∧
      MemoryKept s t ∧ FaultKept s t)

/-! ### The 16-bit loads (41_load16.md) -/

/-- R160, R161, R162. -/
def Obligations.LoadSixteen : Prop :=
  ∀ (nn : Word) (s : State),
    (∀ p : Rp, EncodedAs (Form.ldRpImm p nn).instr [BitVec.ofNat 8 (0x01 + 16 * p.index), loByte nn, hiByte nn] ∧
      ∃ t, exec (Form.ldRpImm p nn).instr s = .next t ∧ t.getRp p = nn ∧
        (∀ q, q ≠ p → t.getRp q = s.getRp q) ∧ t.regs.a = s.regs.a ∧ FlagsKept s t ∧ PCKept s t ∧
        MemoryKept s t ∧ FaultKept s t) ∧
    (EncodedAs (.ld_atnn_SP nn) [0x08, loByte nn, hiByte nn] ∧ ∃ t, exec (.ld_atnn_SP nn) s = .next t ∧
      StoredWord nn s.sp s t ∧ RegsKept s t ∧ FlagsKept s t ∧ SPKept s t ∧ PCKept s t ∧ FaultKept s t) ∧
    (EncodedAs .ld_SP_HL [0xF9] ∧ ∃ t, exec .ld_SP_HL s = .next t ∧
      t.sp = s.hl ∧ RegsKept s t ∧ FlagsKept s t ∧ PCKept s t ∧ MemoryKept s t ∧ FaultKept s t)

/-- R163, R214, R216: the signed offset to SP, with the carries of the unsigned low-byte addition. -/
def Obligations.SPOffset : Prop :=
  ∀ (e : Byte) (s : State),
    (EncodedAs (.ld_HL_SPe e) [0xF8, e] ∧ ∃ t, exec (.ld_HL_SPe e) s = .next t ∧
      (t.hl.toNat : Int) = ((s.sp.toNat : Int) + e.toInt) % 65536 ∧ RegsKeptBut [.h, .l] s t ∧
      t.f = { z := false, n := false, h := decide (s.sp.toNat % 16 + e.toNat % 16 > 0x0F),
              c := decide (s.sp.toNat % 256 + e.toNat > 0xFF) } ∧
      SPKept s t ∧ PCKept s t ∧ MemoryKept s t ∧ FaultKept s t) ∧
    (EncodedAs (.add_SP_e e) [0xE8, e] ∧ ∃ t, exec (.add_SP_e e) s = .next t ∧
      (t.sp.toNat : Int) = ((s.sp.toNat : Int) + e.toInt) % 65536 ∧ RegsKept s t ∧
      t.f = { z := false, n := false, h := decide (s.sp.toNat % 16 + e.toNat % 16 > 0x0F),
              c := decide (s.sp.toNat % 256 + e.toNat > 0xFF) } ∧
      PCKept s t ∧ MemoryKept s t ∧ FaultKept s t)

/-! ### The 8-bit arithmetic and logic (42_alu8.md) -/

/-- R170, R175 to R180. -/
def Obligations.AddAndAdc : Prop :=
  (∀ (o : Operand8) (s : State),
    (EncodedAs (Form.alu .add o).instr [BitVec.ofNat 8 (0x80 + o.index)] ∧
      ∃ t, exec (Form.alu .add o).instr s = .next t ∧ AddedToA (s.readOperand o) 0 s t) ∧
    (EncodedAs (Form.alu .adc o).instr [BitVec.ofNat 8 (0x88 + o.index)] ∧
      ∃ t, exec (Form.alu .adc o).instr s = .next t ∧ AddedToA (s.readOperand o) s.f.c.toNat s t)) ∧
  (∀ (n : Byte) (s : State),
    (EncodedAs (.add_A_n n) [0xC6, n] ∧ ∃ t, exec (.add_A_n n) s = .next t ∧ AddedToA n 0 s t) ∧
    (EncodedAs (.adc_A_n n) [0xCE, n] ∧
      ∃ t, exec (.adc_A_n n) s = .next t ∧ AddedToA n s.f.c.toNat s t))

/-- R171, R181 to R186, R196 to R198. -/
def Obligations.SubSbcCp : Prop :=
  (∀ (o : Operand8) (s : State),
    (EncodedAs (Form.alu .sub o).instr [BitVec.ofNat 8 (0x90 + o.index)] ∧
      ∃ t, exec (Form.alu .sub o).instr s = .next t ∧ SubtractedFromA (s.readOperand o) 0 s t) ∧
    (EncodedAs (Form.alu .sbc o).instr [BitVec.ofNat 8 (0x98 + o.index)] ∧
      ∃ t, exec (Form.alu .sbc o).instr s = .next t ∧
        SubtractedFromA (s.readOperand o) s.f.c.toNat s t) ∧
    (EncodedAs (Form.alu .cp o).instr [BitVec.ofNat 8 (0xB8 + o.index)] ∧
      ∃ t, exec (Form.alu .cp o).instr s = .next t ∧ ComparedWithA (s.readOperand o) s t)) ∧
  (∀ (n : Byte) (s : State),
    (EncodedAs (.sub_n n) [0xD6, n] ∧ ∃ t, exec (.sub_n n) s = .next t ∧ SubtractedFromA n 0 s t) ∧
    (EncodedAs (.sbc_A_n n) [0xDE, n] ∧
      ∃ t, exec (.sbc_A_n n) s = .next t ∧ SubtractedFromA n s.f.c.toNat s t) ∧
    (EncodedAs (.cp_n n) [0xFE, n] ∧ ∃ t, exec (.cp_n n) s = .next t ∧ ComparedWithA n s t))

/-- R172 to R174, R187 to R195. -/
def Obligations.AndXorOr : Prop :=
  (∀ (o : Operand8) (s : State),
    (EncodedAs (Form.alu .and o).instr [BitVec.ofNat 8 (0xA0 + o.index)] ∧
      ∃ t, exec (Form.alu .and o).instr s = .next t ∧ LogicInA (s.regs.a &&& s.readOperand o) true s t) ∧
    (EncodedAs (Form.alu .xor o).instr [BitVec.ofNat 8 (0xA8 + o.index)] ∧
      ∃ t, exec (Form.alu .xor o).instr s = .next t ∧ LogicInA (s.regs.a ^^^ s.readOperand o) false s t) ∧
    (EncodedAs (Form.alu .or o).instr [BitVec.ofNat 8 (0xB0 + o.index)] ∧
      ∃ t, exec (Form.alu .or o).instr s = .next t ∧ LogicInA (s.regs.a ||| s.readOperand o) false s t)) ∧
  (∀ (n : Byte) (s : State),
    (EncodedAs (.and_n n) [0xE6, n] ∧
      ∃ t, exec (.and_n n) s = .next t ∧ LogicInA (s.regs.a &&& n) true s t) ∧
    (EncodedAs (.xor_n n) [0xEE, n] ∧
      ∃ t, exec (.xor_n n) s = .next t ∧ LogicInA (s.regs.a ^^^ n) false s t) ∧
    (EncodedAs (.or_n n) [0xF6, n] ∧
      ∃ t, exec (.or_n n) s = .next t ∧ LogicInA (s.regs.a ||| n) false s t))

/-- R199 to R202. -/
def Obligations.IncAndDec : Prop :=
  ∀ (o : Operand8) (s : State),
    (EncodedAs (Form.inc o).instr [BitVec.ofNat 8 (0x04 + 8 * o.index)] ∧
      ∃ t, exec (Form.inc o).instr s = .next t ∧ OperandGets o (s.readOperand o + 1) s t ∧
        t.f = { z := decide (s.readOperand o + 1 = 0), n := false,
                h := decide ((s.readOperand o).toNat % 16 = 0x0F), c := s.f.c } ∧
        SPKept s t ∧ PCKept s t ∧ FaultKept s t) ∧
    (EncodedAs (Form.dec o).instr [BitVec.ofNat 8 (0x05 + 8 * o.index)] ∧
      ∃ t, exec (Form.dec o).instr s = .next t ∧ OperandGets o (s.readOperand o - 1) s t ∧
        t.f = { z := decide (s.readOperand o - 1 = 0), n := true,
                h := decide ((s.readOperand o).toNat % 16 = 0x00), c := s.f.c } ∧
        SPKept s t ∧ PCKept s t ∧ FaultKept s t)

/-- R203. -/
def Obligations.DecimalAdjust : Prop :=
  EncodedAs .daa [0x27] ∧
  ∀ s : State, ∃ t, exec .daa s = .next t ∧
    (s.f.n = false →
      t.regs.a = BitVec.ofNat 8 (s.regs.a.toNat +
        (if s.f.c = true ∨ s.regs.a.toNat > 0x99 then 0x60 else 0) +
        (if s.f.h = true ∨ s.regs.a.toNat % 16 > 0x09 then 0x06 else 0)) ∧
      t.f.c = decide (s.f.c = true ∨ s.regs.a.toNat > 0x99)) ∧
    (s.f.n = true →
      (t.regs.a.toNat : Int) = ((s.regs.a.toNat : Int) - (if s.f.c = true then 0x60 else 0) -
        (if s.f.h = true then 0x06 else 0)) % 256 ∧
      t.f.c = s.f.c) ∧
    t.f.z = decide (t.regs.a = 0) ∧ t.f.n = s.f.n ∧ t.f.h = false ∧
    RegsKeptBut [.a] s t ∧ SPKept s t ∧ PCKept s t ∧ MemoryKept s t ∧ FaultKept s t

/-- What DAA is for (R203's first sentence): after the addition of two packed decimal bytes A and B, with
a carry in, and the subtraction of one from the other, with a borrow in, it leaves the decimal digits of
the result modulo 100, and in Cf whether there was a carry or a borrow of 100. -/
def Obligations.DecimalArithmetic : Prop :=
  ∀ (x1 x0 y1 y0 : Nat) (s : State), x1 < 10 → x0 < 10 → y1 < 10 → y0 < 10 →
    s.regs.a.toNat = 16 * x1 + x0 → s.regs.b.toNat = 16 * y1 + y0 →
    (∃ t u, exec .adc_A_B s = .next t ∧ exec .daa t = .next u ∧
      u.regs.a.toNat = 16 * ((10 * x1 + x0 + (10 * y1 + y0) + s.f.c.toNat) / 10 % 10) +
        (10 * x1 + x0 + (10 * y1 + y0) + s.f.c.toNat) % 10 ∧
      u.f.c = decide (10 * x1 + x0 + (10 * y1 + y0) + s.f.c.toNat ≥ 100)) ∧
    (∃ t u, exec .sbc_A_B s = .next t ∧ exec .daa t = .next u ∧
      u.regs.a.toNat = 16 * ((100 + (10 * x1 + x0) - (10 * y1 + y0) - s.f.c.toNat) / 10 % 10) +
        (100 + (10 * x1 + x0) - (10 * y1 + y0) - s.f.c.toNat) % 10 ∧
      u.f.c = decide (10 * x1 + x0 < 10 * y1 + y0 + s.f.c.toNat))

/-- R204 to R206. -/
def Obligations.CplScfCcf : Prop :=
  ∀ s : State,
    (EncodedAs .cpl [0x2F] ∧ ∃ t, exec .cpl s = .next t ∧ t.regs.a = s.regs.a ^^^ 0xFF ∧
      t.f = { z := s.f.z, n := true, h := true, c := s.f.c } ∧ RegsKeptBut [.a] s t ∧ SPKept s t ∧
      PCKept s t ∧ MemoryKept s t ∧ FaultKept s t) ∧
    (EncodedAs .scf [0x37] ∧ ∃ t, exec .scf s = .next t ∧
      t.f = { z := s.f.z, n := false, h := false, c := true } ∧ RegsKept s t ∧ SPKept s t ∧
      PCKept s t ∧ MemoryKept s t ∧ FaultKept s t) ∧
    (EncodedAs .ccf [0x3F] ∧ ∃ t, exec .ccf s = .next t ∧
      t.f = { z := s.f.z, n := false, h := false, c := !s.f.c } ∧ RegsKept s t ∧ SPKept s t ∧
      PCKept s t ∧ MemoryKept s t ∧ FaultKept s t)

/-! ### The 16-bit arithmetic (43_alu16.md) -/

/-- R215. -/
def Obligations.AddHL : Prop :=
  ∀ (p : Rp) (s : State),
    EncodedAs (Form.addHL p).instr [BitVec.ofNat 8 (0x09 + 16 * p.index)] ∧
    ∃ t, exec (Form.addHL p).instr s = .next t ∧
      t.hl.toNat = (s.hl.toNat + (s.getRp p).toNat) % 65536 ∧ RegsKeptBut [.h, .l] s t ∧
      t.f = { z := s.f.z, n := false,
              h := decide (s.hl.toNat % 4096 + (s.getRp p).toNat % 4096 > 0x0FFF),
              c := decide (s.hl.toNat + (s.getRp p).toNat > 0xFFFF) } ∧
      SPKept s t ∧ PCKept s t ∧ MemoryKept s t ∧ FaultKept s t

/-- R217, R218. -/
def Obligations.IncDecPair : Prop :=
  ∀ (p : Rp) (s : State),
    (EncodedAs (Form.incRp p).instr [BitVec.ofNat 8 (0x03 + 16 * p.index)] ∧
      ∃ t, exec (Form.incRp p).instr s = .next t ∧
        (t.getRp p).toNat = ((s.getRp p).toNat + 1) % 65536 ∧ (∀ q, q ≠ p → t.getRp q = s.getRp q) ∧
        t.regs.a = s.regs.a ∧ FlagsKept s t ∧ PCKept s t ∧ MemoryKept s t ∧ FaultKept s t) ∧
    (EncodedAs (Form.decRp p).instr [BitVec.ofNat 8 (0x0B + 16 * p.index)] ∧
      ∃ t, exec (Form.decRp p).instr s = .next t ∧
        ((t.getRp p).toNat : Int) = (((s.getRp p).toNat : Int) - 1) % 65536 ∧
        (∀ q, q ≠ p → t.getRp q = s.getRp q) ∧
        t.regs.a = s.regs.a ∧ FlagsKept s t ∧ PCKept s t ∧ MemoryKept s t ∧ FaultKept s t)

/-! ### Rotates, shifts and bit operations (44_bitops.md) -/

/-- R220 to R223, R228 to R231. -/
def Obligations.RotateAccumulator : Prop :=
  ∀ s : State,
    (EncodedAs .rlca [0x07] ∧ ∃ t, exec .rlca s = .next t ∧
      RotatedA (2 * s.regs.a.toNat % 256 + s.regs.a.toNat / 128) (decide (s.regs.a.toNat / 128 = 1)) s t) ∧
    (EncodedAs .rrca [0x0F] ∧ ∃ t, exec .rrca s = .next t ∧
      RotatedA (s.regs.a.toNat / 2 + 128 * (s.regs.a.toNat % 2)) (decide (s.regs.a.toNat % 2 = 1)) s t) ∧
    (EncodedAs .rla [0x17] ∧ ∃ t, exec .rla s = .next t ∧
      RotatedA (2 * s.regs.a.toNat % 256 + s.f.c.toNat) (decide (s.regs.a.toNat / 128 = 1)) s t) ∧
    (EncodedAs .rra [0x1F] ∧ ∃ t, exec .rra s = .next t ∧
      RotatedA (s.regs.a.toNat / 2 + 128 * s.f.c.toNat) (decide (s.regs.a.toNat % 2 = 1)) s t)

/-- R220 to R223, R232 to R239. -/
def Obligations.RotateOperand : Prop :=
  ∀ (o : Operand8) (s : State),
    (EncodedAs (Form.rot .rlc o).instr [0xCB, BitVec.ofNat 8 o.index] ∧
      ∃ t, exec (Form.rot .rlc o).instr s = .next t ∧
        RotatedOperand o (2 * (s.readOperand o).toNat % 256 + (s.readOperand o).toNat / 128)
          (decide ((s.readOperand o).toNat / 128 = 1)) s t) ∧
    (EncodedAs (Form.rot .rrc o).instr [0xCB, BitVec.ofNat 8 (0x08 + o.index)] ∧
      ∃ t, exec (Form.rot .rrc o).instr s = .next t ∧
        RotatedOperand o ((s.readOperand o).toNat / 2 + 128 * ((s.readOperand o).toNat % 2))
          (decide ((s.readOperand o).toNat % 2 = 1)) s t) ∧
    (EncodedAs (Form.rot .rl o).instr [0xCB, BitVec.ofNat 8 (0x10 + o.index)] ∧
      ∃ t, exec (Form.rot .rl o).instr s = .next t ∧
        RotatedOperand o (2 * (s.readOperand o).toNat % 256 + s.f.c.toNat)
          (decide ((s.readOperand o).toNat / 128 = 1)) s t) ∧
    (EncodedAs (Form.rot .rr o).instr [0xCB, BitVec.ofNat 8 (0x18 + o.index)] ∧
      ∃ t, exec (Form.rot .rr o).instr s = .next t ∧
        RotatedOperand o ((s.readOperand o).toNat / 2 + 128 * s.f.c.toNat)
          (decide ((s.readOperand o).toNat % 2 = 1)) s t)

/-- R224 to R227, R240 to R247. -/
def Obligations.ShiftOperand : Prop :=
  ∀ (o : Operand8) (s : State),
    (EncodedAs (Form.rot .sla o).instr [0xCB, BitVec.ofNat 8 (0x20 + o.index)] ∧
      ∃ t, exec (Form.rot .sla o).instr s = .next t ∧
        RotatedOperand o (2 * (s.readOperand o).toNat % 256)
          (decide ((s.readOperand o).toNat / 128 = 1)) s t) ∧
    (EncodedAs (Form.rot .sra o).instr [0xCB, BitVec.ofNat 8 (0x28 + o.index)] ∧
      ∃ t, exec (Form.rot .sra o).instr s = .next t ∧
        RotatedOperand o ((s.readOperand o).toNat / 2 + 128 * ((s.readOperand o).toNat / 128))
          (decide ((s.readOperand o).toNat % 2 = 1)) s t) ∧
    (EncodedAs (Form.rot .swap o).instr [0xCB, BitVec.ofNat 8 (0x30 + o.index)] ∧
      ∃ t, exec (Form.rot .swap o).instr s = .next t ∧
        RotatedOperand o (16 * ((s.readOperand o).toNat % 16) + (s.readOperand o).toNat / 16) false s t) ∧
    (EncodedAs (Form.rot .srl o).instr [0xCB, BitVec.ofNat 8 (0x38 + o.index)] ∧
      ∃ t, exec (Form.rot .srl o).instr s = .next t ∧
        RotatedOperand o ((s.readOperand o).toNat / 2) (decide ((s.readOperand o).toNat % 2 = 1)) s t)

/-- R248, R249. -/
def Obligations.BitTest : Prop :=
  ∀ (b : BitIdx) (o : Operand8) (s : State),
    EncodedAs (Form.bit b o).instr [0xCB, BitVec.ofNat 8 (0x40 + 8 * b.index + o.index)] ∧
    ∃ t, exec (Form.bit b o).instr s = .next t ∧
      t.f = { z := decide ((s.readOperand o).toNat / 2 ^ b.index % 2 = 0), n := false, h := true, c := s.f.c } ∧
      RegsKept s t ∧ SPKept s t ∧ PCKept s t ∧ MemoryKept s t ∧ FaultKept s t

/-- R250 to R253. -/
def Obligations.BitResetAndSet : Prop :=
  ∀ (b : BitIdx) (o : Operand8) (s : State),
    (EncodedAs (Form.res b o).instr [0xCB, BitVec.ofNat 8 (0x80 + 8 * b.index + o.index)] ∧
      ∃ t v, exec (Form.res b o).instr s = .next t ∧ OperandGets o v s t ∧
        (∀ k < 8, v.getLsbD k = (decide (k ≠ b.index) && (s.readOperand o).getLsbD k)) ∧
        FlagsKept s t ∧ SPKept s t ∧ PCKept s t ∧ FaultKept s t) ∧
    (EncodedAs (Form.set b o).instr [0xCB, BitVec.ofNat 8 (0xC0 + 8 * b.index + o.index)] ∧
      ∃ t v, exec (Form.set b o).instr s = .next t ∧ OperandGets o v s t ∧
        (∀ k < 8, v.getLsbD k = (decide (k = b.index) || (s.readOperand o).getLsbD k)) ∧
        FlagsKept s t ∧ SPKept s t ∧ PCKept s t ∧ FaultKept s t)

/-! ### Control transfer (45_control.md) -/

/-- R260 to R265. -/
def Obligations.Jumps : Prop :=
  (∀ f : Flags, condHolds f .nz = decide (f.z = false) ∧ condHolds f .z = decide (f.z = true) ∧
    condHolds f .nc = decide (f.c = false) ∧ condHolds f .c = decide (f.c = true)) ∧
  (∀ (nn : Word) (s : State),
    (EncodedAs (.jp_nn nn) [0xC3, loByte nn, hiByte nn] ∧
      ∃ t, exec (.jp_nn nn) s = .next t ∧ t.pc = nn ∧ OnlyPC s t) ∧
    (∀ cc : Cond, EncodedAs (Form.jpIf cc nn).instr [BitVec.ofNat 8 (0xC2 + 8 * cc.index), loByte nn, hiByte nn] ∧
      ∃ t, exec (Form.jpIf cc nn).instr s = .next t ∧
        t.pc = (if condHolds s.f cc = true then nn else s.pc) ∧ OnlyPC s t)) ∧
  (∀ s : State, EncodedAs .jp_HL [0xE9] ∧ ∃ t, exec .jp_HL s = .next t ∧ t.pc = s.hl ∧ OnlyPC s t) ∧
  (∀ (e : Byte) (s : State),
    (EncodedAs (.jr_e e) [0x18, e] ∧ ∃ t, exec (.jr_e e) s = .next t ∧
      (t.pc.toNat : Int) = ((s.pc.toNat : Int) + e.toInt) % 65536 ∧ OnlyPC s t) ∧
    (∀ cc : Cond, EncodedAs (Form.jrIf cc e).instr [BitVec.ofNat 8 (0x20 + 8 * cc.index), e] ∧
      ∃ t, exec (Form.jrIf cc e).instr s = .next t ∧
        (condHolds s.f cc = true → (t.pc.toNat : Int) = ((s.pc.toNat : Int) + e.toInt) % 65536) ∧
        (condHolds s.f cc = false → t.pc = s.pc) ∧ OnlyPC s t))

/-- R266, R267, R271. -/
def Obligations.CallsAndRestarts : Prop :=
  (∀ (nn : Word) (s : State),
    (EncodedAs (.call_nn nn) [0xCD, loByte nn, hiByte nn] ∧
      ∃ t, exec (.call_nn nn) s = .next t ∧ t.pc = nn ∧ PushedPC s t) ∧
    (∀ cc : Cond, EncodedAs (Form.callIf cc nn).instr [BitVec.ofNat 8 (0xC4 + 8 * cc.index), loByte nn, hiByte nn] ∧
      ∃ t, exec (Form.callIf cc nn).instr s = .next t ∧
        (condHolds s.f cc = true → t.pc = nn ∧ PushedPC s t) ∧ (condHolds s.f cc = false → t = s))) ∧
  (∀ (k : RstVec) (s : State),
    EncodedAs (Form.rst k).instr [BitVec.ofNat 8 (0xC7 + 8 * k.index)] ∧
    ∃ t, exec (Form.rst k).instr s = .next t ∧ t.pc.toNat = 8 * k.index ∧ PushedPC s t)

/-- R268 to R270. -/
def Obligations.Returns : Prop :=
  ∀ s : State,
    (EncodedAs .ret [0xC9] ∧ ∃ t, exec .ret s = .next t ∧ PoppedPC s t) ∧
    (∀ cc : Cond, EncodedAs (Form.retIf cc).instr [BitVec.ofNat 8 (0xC0 + 8 * cc.index)] ∧
      ∃ t, exec (Form.retIf cc).instr s = .next t ∧
        (condHolds s.f cc = true → PoppedPC s t) ∧ (condHolds s.f cc = false → t = s)) ∧
    (EncodedAs .reti [0xD9] ∧ ∃ t, exec .reti s = .next t ∧ PoppedPC s t)

/-- The document's test of R266: a RET that follows a CALL, with both stack bytes in high RAM (R63: SP is
0xFF82 to 0xFFFF), restores pc and SP. -/
def Obligations.CallThenReturn : Prop :=
  ∀ (nn : Word) (s : State), 0xFF82 ≤ s.sp.toNat →
    ∃ t u, exec (.call_nn nn) s = .next t ∧ exec .ret t = .next u ∧
      u.pc = s.pc ∧ u.sp = s.sp ∧ RegsKept s u ∧ FlagsKept s u ∧
      StoredOnlyAt [s.sp - 2, s.sp - 1] s u

/-! ### The stack (46_stack.md) -/

/-- R280 to R282. -/
def Obligations.PushAndPop : Prop :=
  (∀ (p : Rp2) (s : State),
    EncodedAs (Form.push p).instr [BitVec.ofNat 8 (0xC5 + 16 * p.index)] ∧
    ∃ t, exec (Form.push p).instr s = .next t ∧ t.sp = s.sp - 2 ∧
      StoredWord (s.sp - 2) (s.getRp2 p) s t ∧ RegsKept s t ∧ FlagsKept s t ∧ PCKept s t ∧ FaultKept s t) ∧
  (∀ (p : Rp2) (s : State),
    EncodedAs (Form.pop p).instr [BitVec.ofNat 8 (0xC1 + 16 * p.index)] ∧
    ∃ t, exec (Form.pop p).instr s = .next t ∧ t.sp = s.sp + 2 ∧ PCKept s t ∧ MemoryKept s t ∧
      FaultKept s t ∧
      (p ≠ .af → (t.getRp2 p).toNat = 256 * (s.read8 (s.sp + 1)).toNat + (s.read8 s.sp).toNat ∧
        (∀ q, q ≠ p → t.getRp2 q = s.getRp2 q) ∧ FlagsKept s t) ∧
      (p = .af → t.regs.a = s.read8 (s.sp + 1) ∧ t.f.toByte = s.read8 s.sp &&& 0xF0 ∧
        t.f = { z := (s.read8 s.sp).getLsbD 7, n := (s.read8 s.sp).getLsbD 6,
                h := (s.read8 s.sp).getLsbD 5, c := (s.read8 s.sp).getLsbD 4 } ∧
        RegsKeptBut [.a] s t))

/-! ### NOP, HALT, DI, EI (47_misc.md) -/

/-- R290, R291, R293, R294. -/
def Obligations.NoOperations : Prop :=
  ∀ s : State,
    (EncodedAs .nop [0x00] ∧ exec .nop s = .next s) ∧ (EncodedAs .halt [0x76] ∧ exec .halt s = .next s) ∧
    (EncodedAs .di [0xF3] ∧ exec .di s = .next s) ∧ (EncodedAs .ei [0xFB] ∧ exec .ei s = .next s)
end

