-- ==== Sys2Proof/Laws/State.lean ====
section
/-! SUPPORT. What each update of the state does to each field, and register reads after register
writes. -/

namespace Sys2Proof.Machine

open Sys2Proof

/-! ### setReg -/

@[simp] theorem State.setReg_regs (s : State) (r : Reg8) (v : Byte) :
    (s.setReg r v).regs = s.regs.set r v := rfl
@[simp] theorem State.setReg_f (s : State) (r : Reg8) (v : Byte) :
    (s.setReg r v).f = s.f := rfl
@[simp] theorem State.setReg_sp (s : State) (r : Reg8) (v : Byte) :
    (s.setReg r v).sp = s.sp := rfl
@[simp] theorem State.setReg_pc (s : State) (r : Reg8) (v : Byte) :
    (s.setReg r v).pc = s.pc := rfl
@[simp] theorem State.setReg_bus (s : State) (r : Reg8) (v : Byte) :
    (s.setReg r v).bus = s.bus := rfl
@[simp] theorem State.setReg_fault (s : State) (r : Reg8) (v : Byte) :
    (s.setReg r v).fault = s.fault := rfl

/-! ### setHL -/

@[simp] theorem State.setHL_regs (s : State) (v : Word) :
    (s.setHL v).regs = s.regs.setHL v := rfl
@[simp] theorem State.setHL_f (s : State) (v : Word) :
    (s.setHL v).f = s.f := rfl
@[simp] theorem State.setHL_sp (s : State) (v : Word) :
    (s.setHL v).sp = s.sp := rfl
@[simp] theorem State.setHL_pc (s : State) (v : Word) :
    (s.setHL v).pc = s.pc := rfl
@[simp] theorem State.setHL_bus (s : State) (v : Word) :
    (s.setHL v).bus = s.bus := rfl
@[simp] theorem State.setHL_fault (s : State) (v : Word) :
    (s.setHL v).fault = s.fault := rfl

/-! ### setFlags -/

@[simp] theorem State.setFlags_regs (s : State) (g : Flags) :
    (s.setFlags g).regs = s.regs := rfl
@[simp] theorem State.setFlags_f (s : State) (g : Flags) :
    (s.setFlags g).f = g := rfl
@[simp] theorem State.setFlags_sp (s : State) (g : Flags) :
    (s.setFlags g).sp = s.sp := rfl
@[simp] theorem State.setFlags_pc (s : State) (g : Flags) :
    (s.setFlags g).pc = s.pc := rfl
@[simp] theorem State.setFlags_bus (s : State) (g : Flags) :
    (s.setFlags g).bus = s.bus := rfl
@[simp] theorem State.setFlags_fault (s : State) (g : Flags) :
    (s.setFlags g).fault = s.fault := rfl

/-! ### setSP -/

@[simp] theorem State.setSP_regs (s : State) (v : Word) :
    (s.setSP v).regs = s.regs := rfl
@[simp] theorem State.setSP_f (s : State) (v : Word) :
    (s.setSP v).f = s.f := rfl
@[simp] theorem State.setSP_sp (s : State) (v : Word) :
    (s.setSP v).sp = v := rfl
@[simp] theorem State.setSP_pc (s : State) (v : Word) :
    (s.setSP v).pc = s.pc := rfl
@[simp] theorem State.setSP_bus (s : State) (v : Word) :
    (s.setSP v).bus = s.bus := rfl
@[simp] theorem State.setSP_fault (s : State) (v : Word) :
    (s.setSP v).fault = s.fault := rfl

/-! ### setPC -/

@[simp] theorem State.setPC_regs (s : State) (v : Word) :
    (s.setPC v).regs = s.regs := rfl
@[simp] theorem State.setPC_f (s : State) (v : Word) :
    (s.setPC v).f = s.f := rfl
@[simp] theorem State.setPC_sp (s : State) (v : Word) :
    (s.setPC v).sp = s.sp := rfl
@[simp] theorem State.setPC_pc (s : State) (v : Word) :
    (s.setPC v).pc = v := rfl
@[simp] theorem State.setPC_bus (s : State) (v : Word) :
    (s.setPC v).bus = s.bus := rfl
@[simp] theorem State.setPC_fault (s : State) (v : Word) :
    (s.setPC v).fault = s.fault := rfl

/-! ### write8 -/

@[simp] theorem State.write8_regs (s : State) (a : Word) (v : Byte) :
    (s.write8 a v).regs = s.regs := rfl
@[simp] theorem State.write8_f (s : State) (a : Word) (v : Byte) :
    (s.write8 a v).f = s.f := rfl
@[simp] theorem State.write8_sp (s : State) (a : Word) (v : Byte) :
    (s.write8 a v).sp = s.sp := rfl
@[simp] theorem State.write8_pc (s : State) (a : Word) (v : Byte) :
    (s.write8 a v).pc = s.pc := rfl
@[simp] theorem State.write8_bus (s : State) (a : Word) (v : Byte) :
    (s.write8 a v).bus = s.bus.write8 a v := rfl
@[simp] theorem State.write8_fault (s : State) (a : Word) (v : Byte) :
    (s.write8 a v).fault = s.fault := rfl

/-! ### write16 -/

@[simp] theorem State.write16_regs (s : State) (a : Word) (v : Word) :
    (s.write16 a v).regs = s.regs := rfl
@[simp] theorem State.write16_f (s : State) (a : Word) (v : Word) :
    (s.write16 a v).f = s.f := rfl
@[simp] theorem State.write16_sp (s : State) (a : Word) (v : Word) :
    (s.write16 a v).sp = s.sp := rfl
@[simp] theorem State.write16_pc (s : State) (a : Word) (v : Word) :
    (s.write16 a v).pc = s.pc := rfl
@[simp] theorem State.write16_bus (s : State) (a : Word) (v : Word) :
    (s.write16 a v).bus = s.bus.write16 a v := rfl
@[simp] theorem State.write16_fault (s : State) (a : Word) (v : Word) :
    (s.write16 a v).fault = s.fault := rfl

/-! ### push16 -/

@[simp] theorem State.push16_regs (s : State) (v : Word) :
    (s.push16 v).regs = s.regs := rfl
@[simp] theorem State.push16_f (s : State) (v : Word) :
    (s.push16 v).f = s.f := rfl
@[simp] theorem State.push16_sp (s : State) (v : Word) :
    (s.push16 v).sp = s.sp - 2 := rfl
@[simp] theorem State.push16_pc (s : State) (v : Word) :
    (s.push16 v).pc = s.pc := rfl
@[simp] theorem State.push16_bus (s : State) (v : Word) :
    (s.push16 v).bus = s.bus.write16 (s.sp - 2) v := rfl
@[simp] theorem State.push16_fault (s : State) (v : Word) :
    (s.push16 v).fault = s.fault := rfl

/-! ### drop16 -/

@[simp] theorem State.drop16_regs (s : State) :
    (s.drop16).regs = s.regs := rfl
@[simp] theorem State.drop16_f (s : State) :
    (s.drop16).f = s.f := rfl
@[simp] theorem State.drop16_sp (s : State) :
    (s.drop16).sp = s.sp + 2 := rfl
@[simp] theorem State.drop16_pc (s : State) :
    (s.drop16).pc = s.pc := rfl
@[simp] theorem State.drop16_bus (s : State) :
    (s.drop16).bus = s.bus := rfl
@[simp] theorem State.drop16_fault (s : State) :
    (s.drop16).fault = s.fault := rfl

/-! ### setRp -/

@[simp] theorem State.setRp_f (s : State) (p : Rp) (v : Word) :
    (s.setRp p v).f = s.f := by cases p <;> rfl
@[simp] theorem State.setRp_pc (s : State) (p : Rp) (v : Word) :
    (s.setRp p v).pc = s.pc := by cases p <;> rfl
@[simp] theorem State.setRp_bus (s : State) (p : Rp) (v : Word) :
    (s.setRp p v).bus = s.bus := by cases p <;> rfl
@[simp] theorem State.setRp_fault (s : State) (p : Rp) (v : Word) :
    (s.setRp p v).fault = s.fault := by cases p <;> rfl

/-! ### setRp2 -/

@[simp] theorem State.setRp2_sp (s : State) (p : Rp2) (v : Word) :
    (s.setRp2 p v).sp = s.sp := by cases p <;> rfl
@[simp] theorem State.setRp2_pc (s : State) (p : Rp2) (v : Word) :
    (s.setRp2 p v).pc = s.pc := by cases p <;> rfl
@[simp] theorem State.setRp2_bus (s : State) (p : Rp2) (v : Word) :
    (s.setRp2 p v).bus = s.bus := by cases p <;> rfl
@[simp] theorem State.setRp2_fault (s : State) (p : Rp2) (v : Word) :
    (s.setRp2 p v).fault = s.fault := by cases p <;> rfl

/-! ### indirectUpdate -/

@[simp] theorem State.indirectUpdate_f (s : State) (i : Indirect) :
    (s.indirectUpdate i).f = s.f := by cases i <;> rfl
@[simp] theorem State.indirectUpdate_sp (s : State) (i : Indirect) :
    (s.indirectUpdate i).sp = s.sp := by cases i <;> rfl
@[simp] theorem State.indirectUpdate_pc (s : State) (i : Indirect) :
    (s.indirectUpdate i).pc = s.pc := by cases i <;> rfl
@[simp] theorem State.indirectUpdate_bus (s : State) (i : Indirect) :
    (s.indirectUpdate i).bus = s.bus := by cases i <;> rfl
@[simp] theorem State.indirectUpdate_fault (s : State) (i : Indirect) :
    (s.indirectUpdate i).fault = s.fault := by cases i <;> rfl

/-! ### writeOperand -/

@[simp] theorem State.writeOperand_f (s : State) (o : Operand8) (v : Byte) :
    (s.writeOperand o v).f = s.f := by cases o <;> rfl
@[simp] theorem State.writeOperand_sp (s : State) (o : Operand8) (v : Byte) :
    (s.writeOperand o v).sp = s.sp := by cases o <;> rfl
@[simp] theorem State.writeOperand_pc (s : State) (o : Operand8) (v : Byte) :
    (s.writeOperand o v).pc = s.pc := by cases o <;> rfl
@[simp] theorem State.writeOperand_fault (s : State) (o : Operand8) (v : Byte) :
    (s.writeOperand o v).fault = s.fault := by cases o <;> rfl

/-! ### Registers -/

@[simp] theorem Regs.get_set (g : Regs) (r q : Reg8) (v : Byte) :
    (g.set r v).get q = if q = r then v else g.get q := by cases r <;> cases q <;> rfl

@[simp] theorem State.getReg_eq (s : State) (r : Reg8) : s.getReg r = s.regs.get r := rfl
@[simp] theorem State.hl_eq (s : State) : s.hl = s.regs.hl := rfl
@[simp] theorem State.read8_eq (s : State) (a : Word) : s.read8 a = s.bus.read8 a := rfl
@[simp] theorem State.read16_eq (s : State) (a : Word) : s.read16 a = s.bus.read16 a := rfl
@[simp] theorem State.top16_eq (s : State) : s.top16 = s.bus.read16 s.sp := rfl

@[simp] theorem Regs.get_a (g : Regs) : g.get .a = g.a := rfl
@[simp] theorem Regs.get_b (g : Regs) : g.get .b = g.b := rfl
@[simp] theorem Regs.get_c (g : Regs) : g.get .c = g.c := rfl
@[simp] theorem Regs.get_d (g : Regs) : g.get .d = g.d := rfl
@[simp] theorem Regs.get_e (g : Regs) : g.get .e = g.e := rfl
@[simp] theorem Regs.get_h (g : Regs) : g.get .h = g.h := rfl
@[simp] theorem Regs.get_l (g : Regs) : g.get .l = g.l := rfl

theorem joinBytes_toNat (hi lo : Byte) : (joinBytes hi lo).toNat = 256 * hi.toNat + lo.toNat := by
  unfold joinBytes
  rw [BitVec.toNat_append, ← Nat.shiftLeft_add_eq_or_of_lt lo.isLt]
  omega

theorem hiByte_toNat (v : Word) : (hiByte v).toNat = v.toNat / 256 := by
  have := v.isLt
  simp only [hiByte, BitVec.extractLsb'_toNat, Nat.shiftRight_eq_div_pow]
  omega

theorem loByte_toNat (v : Word) : (loByte v).toNat = v.toNat % 256 := by
  simp [loByte]

@[simp] theorem hiByte_joinBytes (hi lo : Byte) : hiByte (joinBytes hi lo) = hi := by
  apply BitVec.eq_of_toNat_eq
  rw [hiByte_toNat, joinBytes_toNat]
  omega

@[simp] theorem loByte_joinBytes (hi lo : Byte) : loByte (joinBytes hi lo) = lo := by
  apply BitVec.eq_of_toNat_eq
  rw [loByte_toNat, joinBytes_toNat]
  omega

@[simp] theorem joinBytes_hi_lo (v : Word) : joinBytes (hiByte v) (loByte v) = v := by
  apply BitVec.eq_of_toNat_eq
  rw [joinBytes_toNat, hiByte_toNat, loByte_toNat]
  omega

@[simp] theorem Regs.bc_setBC (g : Regs) (v : Word) : (g.setBC v).bc = v := joinBytes_hi_lo v
@[simp] theorem Regs.de_setDE (g : Regs) (v : Word) : (g.setDE v).de = v := joinBytes_hi_lo v
@[simp] theorem Regs.hl_setHL (g : Regs) (v : Word) : (g.setHL v).hl = v := joinBytes_hi_lo v

/-! ### Flags -/

@[simp] theorem Flags.ofByte_toByte (f : Flags) : Flags.ofByte f.toByte = f := by
  rcases f with ⟨z, n, h, c⟩
  cases z <;> cases n <;> cases h <;> cases c <;> rfl

theorem Flags.toByte_ofByte (v : Byte) : (Flags.ofByte v).toByte = v &&& 0xF0 := by
  revert v; decide +kernel

end Sys2Proof.Machine
end

