-- ==== Sys2Proof/Laws/Arith.lean ====
section
/-! SUPPORT. The bit operations of the model as arithmetic on numbers, the form in which the rules of
42_alu8.md to 44_bitops.md state results and flags. -/

namespace Sys2Proof.Machine

open Sys2Proof

/-! ### Halves and masks -/

theorem loByte_eq_ofNat (v : Word) : loByte v = BitVec.ofNat 8 (v.toNat % 256) := by
  apply BitVec.eq_of_toNat_eq
  rw [loByte_toNat]
  simp

theorem hiByte_eq_ofNat (v : Word) : hiByte v = BitVec.ofNat 8 (v.toNat / 256) := by
  apply BitVec.eq_of_toNat_eq
  rw [hiByte_toNat]
  have := v.isLt
  simp
  omega

theorem lowNibble_eq_mod (v : Byte) : lowNibble v = v.toNat % 16 := by
  rw [lowNibble, BitVec.toNat_and]
  exact Nat.and_two_pow_sub_one_eq_mod v.toNat 4

theorem toNat_and_000F (v : Word) : (v &&& 0x000F).toNat = v.toNat % 16 := by
  rw [BitVec.toNat_and]
  exact Nat.and_two_pow_sub_one_eq_mod v.toNat 4

theorem toNat_and_00FF (v : Word) : (v &&& 0x00FF).toNat = v.toNat % 256 := by
  rw [BitVec.toNat_and]
  exact Nat.and_two_pow_sub_one_eq_mod v.toNat 8

theorem toNat_and_0FFF (v : Word) : (v &&& 0x0FFF).toNat = v.toNat % 4096 := by
  rw [BitVec.toNat_and]
  exact Nat.and_two_pow_sub_one_eq_mod v.toNat 12

theorem ffPage_eq_ofNat (n : Byte) : ffPage n = BitVec.ofNat 16 (0xFF00 + n.toNat) := by
  apply BitVec.eq_of_toNat_eq
  have := n.isLt
  rw [ffPage, joinBytes_toNat, BitVec.toNat_ofNat]
  simp
  omega

/-! ### Signed offsets -/

theorem signExtend16_toNat : ∀ e : Byte, ((signExtend16 e).toNat : Int) = e.toInt % 65536 := by
  decide +kernel

theorem add_signExtend16_toNat (p : Word) (e : Byte) :
    ((p + signExtend16 e).toNat : Int) = ((p.toNat : Int) + e.toInt) % 65536 := by
  have h := signExtend16_toNat e
  rw [BitVec.toNat_add]
  omega

/-! ### Results that wrap -/

theorem sub_sub_toNat (a b : Byte) (c : Bool) :
    ((a - b - BitVec.ofNat 8 c.toNat).toNat : Int) = ((a.toNat : Int) - b.toNat - c.toNat) % 256 := by
  have := a.isLt
  have := b.isLt
  have hc : c.toNat ≤ 1 := by cases c <;> decide
  rw [BitVec.toNat_sub, BitVec.toNat_sub, BitVec.toNat_ofNat]
  omega

/-! ### Rotates and shifts: the byte and the carry-out -/

theorem rlc8_eq : ∀ v : Byte, rlc8 v =
    (BitVec.ofNat 8 (2 * v.toNat % 256 + v.toNat / 128), decide (v.toNat / 128 = 1)) := by decide +kernel

theorem rrc8_eq : ∀ v : Byte, rrc8 v =
    (BitVec.ofNat 8 (v.toNat / 2 + 128 * (v.toNat % 2)), decide (v.toNat % 2 = 1)) := by decide +kernel

theorem rl8_eq : ∀ (v : Byte) (c : Bool), rl8 v c =
    (BitVec.ofNat 8 (2 * v.toNat % 256 + c.toNat), decide (v.toNat / 128 = 1)) := by decide +kernel

theorem rr8_eq : ∀ (v : Byte) (c : Bool), rr8 v c =
    (BitVec.ofNat 8 (v.toNat / 2 + 128 * c.toNat), decide (v.toNat % 2 = 1)) := by decide +kernel

theorem sla8_eq : ∀ v : Byte, sla8 v =
    (BitVec.ofNat 8 (2 * v.toNat % 256), decide (v.toNat / 128 = 1)) := by decide +kernel

theorem sra8_eq : ∀ v : Byte, sra8 v =
    (BitVec.ofNat 8 (v.toNat / 2 + 128 * (v.toNat / 128)), decide (v.toNat % 2 = 1)) := by decide +kernel

theorem swap8_eq : ∀ v : Byte, swap8 v =
    (BitVec.ofNat 8 (16 * (v.toNat % 16) + v.toNat / 16), false) := by decide +kernel

theorem srl8_eq : ∀ v : Byte, srl8 v =
    (BitVec.ofNat 8 (v.toNat / 2), decide (v.toNat % 2 = 1)) := by decide +kernel

/-! ### Single bits -/

theorem not_bitOf_eq (v : Byte) (b : BitIdx) :
    (!bitOf v b) = decide (v.toNat / 2 ^ b.index % 2 = 0) := by
  revert v
  cases b <;> decide +kernel

theorem bitMask_getLsbD (b : BitIdx) : ∀ k < 8, (bitMask b).getLsbD k = decide (k = b.index) := by
  cases b <;> decide

/-! ### Pairs -/

theorem State.getRp_setRp (s : State) (p q : Rp) (v : Word) :
    (s.setRp p v).getRp q = if q = p then v else s.getRp q := by
  cases p <;> cases q <;> first | rfl | exact joinBytes_hi_lo v

end Sys2Proof.Machine
end

