-- ==== Sys2Proof/Laws/Memory.lean ====
section
/-! SUPPORT. The byte arrays: a read after a write, the canonical form, and equal contents are equal
data. -/

namespace Sys2Proof.Machine

open Sys2Proof

/-! ### Reads after writes -/

theorem Memory.load_erase (m : Memory) (i j : Nat) :
    Memory.load (Memory.erase m i) j = if i = j then unlisted else Memory.load m j := by
  induction m with
  | nil => simp [Memory.erase, Memory.load]
  | cons p m ih =>
    obtain ⟨k, v⟩ := p
    by_cases hk : k = i
    · subst hk
      simp only [Memory.erase, if_true, ih, Memory.load]
      split <;> simp_all
    · simp only [Memory.erase, if_neg hk, Memory.load, ih]
      split_ifs <;> simp_all

theorem Memory.not_mem_erase (m : Memory) (i : Nat) : ∀ p ∈ Memory.erase m i, p.1 ≠ i := by
  induction m with
  | nil => simp [Memory.erase]
  | cons p m ih =>
    obtain ⟨k, v⟩ := p
    by_cases hk : k = i
    · simpa [Memory.erase, hk] using ih
    · simpa [Memory.erase, hk] using ih

theorem Memory.load_insert (m : Memory) (i j : Nat) (v : Byte) (h : ∀ p ∈ m, p.1 ≠ i) :
    Memory.load (Memory.insert m i v) j = if i = j then v else Memory.load m j := by
  induction m with
  | nil => simp [Memory.insert, Memory.load]
  | cons p m ih =>
    obtain ⟨k, w⟩ := p
    have hk : k ≠ i := h (k, w) (by simp)
    have ih' := ih (fun q hq => h q (by simp [hq]))
    simp only [Memory.insert]
    split
    · simp only [Memory.load]
    · simp only [Memory.load, ih']
      split_ifs <;> simp_all

/-- A read after a write: the byte stored at its own index, and every other index as it was. -/
theorem Memory.load_store (m : Memory) (i j : Nat) (v : Byte) :
    Memory.load (Memory.store m i v) j = if i = j then v else Memory.load m j := by
  unfold Memory.store
  split
  · subst_vars; exact Memory.load_erase m i j
  · rw [Memory.load_insert _ _ _ _ (Memory.not_mem_erase m i), Memory.load_erase]
    split <;> rfl

theorem Memory.load_store_same (m : Memory) (i : Nat) (v : Byte) :
    Memory.load (Memory.store m i v) i = v := by simp [Memory.load_store]

theorem Memory.load_store_other (m : Memory) {i j : Nat} (v : Byte) (h : i ≠ j) :
    Memory.load (Memory.store m i v) j = Memory.load m j := by simp [Memory.load_store, h]

/-! ### The canonical form -/

theorem Memory.wfFrom_cons {size lo k : Nat} {v : Byte} {m : Memory} :
    Memory.wfFrom size lo ((k, v) :: m) = true ↔
      lo ≤ k ∧ k < size ∧ v ≠ unlisted ∧ Memory.wfFrom size (k + 1) m = true := by
  simp [Memory.wfFrom, and_assoc]

theorem Memory.wfFrom_mono {size lo lo' : Nat} {m : Memory} (h : lo' ≤ lo)
    (hm : Memory.wfFrom size lo m = true) : Memory.wfFrom size lo' m = true := by
  cases m with
  | nil => rfl
  | cons p m =>
    obtain ⟨k, v⟩ := p
    rw [Memory.wfFrom_cons] at hm ⊢
    exact ⟨by omega, hm.2⟩

theorem Memory.wfFrom_erase {size : Nat} (m : Memory) (i lo : Nat)
    (hm : Memory.wfFrom size lo m = true) : Memory.wfFrom size lo (Memory.erase m i) = true := by
  induction m generalizing lo with
  | nil => rfl
  | cons p m ih =>
    obtain ⟨k, v⟩ := p
    rw [Memory.wfFrom_cons] at hm
    by_cases hk : k = i
    · simpa [Memory.erase, hk] using Memory.wfFrom_mono (by omega) (ih _ hm.2.2.2)
    · simp only [Memory.erase, if_neg hk, Memory.wfFrom_cons]
      exact ⟨hm.1, hm.2.1, hm.2.2.1, ih _ hm.2.2.2⟩

theorem Memory.wfFrom_insert {size : Nat} (m : Memory) (i lo : Nat) (v : Byte)
    (hm : Memory.wfFrom size lo m = true) (hk : ∀ p ∈ m, p.1 ≠ i) (hlo : lo ≤ i) (hi : i < size)
    (hv : v ≠ unlisted) : Memory.wfFrom size lo (Memory.insert m i v) = true := by
  induction m generalizing lo with
  | nil => simp [Memory.insert, Memory.wfFrom, hlo, hi, hv]
  | cons p m ih =>
    obtain ⟨k, w⟩ := p
    have hne : k ≠ i := hk (k, w) (by simp)
    rw [Memory.wfFrom_cons] at hm
    simp only [Memory.insert]
    split
    · rw [Memory.wfFrom_cons, Memory.wfFrom_cons]
      exact ⟨hlo, hi, hv, by omega, hm.2⟩
    · rw [Memory.wfFrom_cons]
      exact ⟨hm.1, hm.2.1, hm.2.2.1,
        ih _ hm.2.2.2 (fun q hq => hk q (by simp [hq])) (by omega)⟩

/-- A write below the size keeps the canonical form. -/
theorem Memory.wf_store {size : Nat} {m : Memory} {i : Nat} (v : Byte)
    (hm : Memory.wf size m = true) (hi : i < size) :
    Memory.wf size (Memory.store m i v) = true := by
  unfold Memory.store Memory.wf at *
  split
  · exact Memory.wfFrom_erase m i 0 hm
  · exact Memory.wfFrom_insert _ i 0 v (Memory.wfFrom_erase m i 0 hm) (Memory.not_mem_erase m i)
      (Nat.zero_le _) hi ‹_›

@[simp] theorem Memory.wf_nil (size : Nat) : Memory.wf size [] = true := rfl

/-! ### Equal contents are equal data -/

theorem Memory.load_of_wfFrom_lt {size lo i : Nat} {m : Memory}
    (hm : Memory.wfFrom size lo m = true) (h : i < lo) : Memory.load m i = unlisted := by
  induction m generalizing lo with
  | nil => rfl
  | cons p m ih =>
    obtain ⟨k, v⟩ := p
    rw [Memory.wfFrom_cons] at hm
    simp only [Memory.load, show k ≠ i by omega, if_false]
    exact ih hm.2.2.2 (by omega)

theorem Memory.ext_wfFrom {size lo : Nat} {m m' : Memory} (hm : Memory.wfFrom size lo m = true)
    (hm' : Memory.wfFrom size lo m' = true) (h : ∀ i, Memory.load m i = Memory.load m' i) :
    m = m' := by
  induction m generalizing lo m' with
  | nil =>
    cases m' with
    | nil => rfl
    | cons p m' =>
      obtain ⟨k, v⟩ := p
      rw [Memory.wfFrom_cons] at hm'
      have := h k
      simp only [Memory.load, if_true] at this
      exact absurd this.symm hm'.2.2.1
  | cons p m ih =>
    obtain ⟨k, v⟩ := p
    rw [Memory.wfFrom_cons] at hm
    cases m' with
    | nil =>
      have := h k
      simp only [Memory.load, if_true] at this
      exact absurd this hm.2.2.1
    | cons p' m' =>
      obtain ⟨k', v'⟩ := p'
      rw [Memory.wfFrom_cons] at hm'
      have hkk : k = k' := by
        by_contra hne
        rcases Nat.lt_or_gt_of_ne hne with hlt | hlt
        · have := h k
          simp only [Memory.load, if_true, if_neg (Ne.symm hne)] at this
          rw [Memory.load_of_wfFrom_lt hm'.2.2.2 (by omega)] at this
          exact hm.2.2.1 this
        · have := h k'
          simp only [Memory.load, if_true, if_neg hne] at this
          rw [Memory.load_of_wfFrom_lt hm.2.2.2 (by omega)] at this
          exact hm'.2.2.1 this.symm
      subst hkk
      have hv : v = v' := by simpa [Memory.load] using h k
      subst hv
      have : m = m' := by
        refine ih hm.2.2.2 hm'.2.2.2 (fun i => ?_)
        by_cases hi : i < k + 1
        · rw [Memory.load_of_wfFrom_lt hm.2.2.2 hi, Memory.load_of_wfFrom_lt hm'.2.2.2 hi]
        · simpa [Memory.load, show k ≠ i by omega] using h i
      rw [this]

/-- Two arrays in canonical form with the same contents are the same data. -/
theorem Memory.ext_wf {size : Nat} {m m' : Memory} (hm : Memory.wf size m = true)
    (hm' : Memory.wf size m' = true) (h : ∀ i, Memory.load m i = Memory.load m' i) : m = m' :=
  Memory.ext_wfFrom hm hm' h

end Sys2Proof.Machine
end

