-- ==== Sys2Proof/Laws/Bus.lean ====
section
/-! SUPPORT. The bus: where an address can resolve to, everything a byte write can do, the bytes it
leaves alone, and that it keeps the canonical form. -/

namespace Sys2Proof.Machine

open Sys2Proof

/-! ### Resolution -/

/-- The index of an array target is below the array's size (R28). -/
def Target.inRange : Target → Prop
  | .boot i => i < 256
  | .cart i => i < 32768
  | .vram i => i < 8192
  | .wram i => i < 8192
  | .io i => i < 128
  | .hram i => i < 127
  | _ => True

theorem ite_intro {P : Target → Prop} {c : Prop} [Decidable c] {t u : Target} (ht : c → P t)
    (hu : ¬ c → P u) : P (if c then t else u) := by
  by_cases h : c
  · rw [if_pos h]; exact ht h
  · rw [if_neg h]; exact hu h

/-- A property holds of what an address resolves to if it holds in each case of R51, the first match
winning. -/
theorem resolve_elim {P : Target → Prop} (e : Bool) (a : Word)
    (boot : a.toNat ≤ 0x00FF ∧ e = true → P (.boot a.toNat))
    (cart : ¬ (a.toNat ≤ 0x00FF ∧ e = true) → a.toNat ≤ 0x7FFF → P (.cart a.toNat))
    (vram : 0x8000 ≤ a.toNat → a.toNat ≤ 0x9FFF → P (.vram (a.toNat - 0x8000)))
    (unA : 0xA000 ≤ a.toNat → a.toNat ≤ 0xBFFF → P .unmapped)
    (wram : 0xC000 ≤ a.toNat → a.toNat ≤ 0xDFFF → P (.wram (a.toNat - 0xC000)))
    (echo : 0xE000 ≤ a.toNat → a.toNat ≤ 0xFDFF → P (.wram (a.toNat - 0xE000)))
    (unB : 0xFE00 ≤ a.toNat → a.toNat ≤ 0xFEFF → P .unmapped)
    (sd : a.toNat = 0xFF01 → P .serialData) (sc : a.toNat = 0xFF02 → P .serialCtrl)
    (lcd : a.toNat = 0xFF44 → P .lcdLine) (latch : a.toNat = 0xFF50 → P .bootLatch)
    (io : 0xFF00 ≤ a.toNat → a.toNat ≤ 0xFF7F → a.toNat ≠ 0xFF01 → a.toNat ≠ 0xFF02 →
      a.toNat ≠ 0xFF44 → a.toNat ≠ 0xFF50 → P (.io (a.toNat - 0xFF00)))
    (hram : 0xFF80 ≤ a.toNat → a.toNat ≤ 0xFFFE → P (.hram (a.toNat - 0xFF80)))
    (unC : a.toNat = 0xFFFF → P .unmapped) : P (resolve e a) := by
  have hlt := a.isLt
  unfold resolve
  refine ite_intro boot fun h1 => ite_intro (cart h1) fun h2 => ite_intro (vram (by omega)) fun h3 =>
    ite_intro (unA (by omega)) fun h4 => ite_intro (wram (by omega)) fun h5 =>
    ite_intro (echo (by omega)) fun h6 => ite_intro (unB (by omega)) fun h7 => ite_intro sd fun h8 =>
    ite_intro sc fun h9 => ite_intro lcd fun h10 => ite_intro latch fun h11 =>
    ite_intro (fun h => io (by omega) h h8 h9 h10 h11) fun h12 => ite_intro (hram (by omega))
    fun h13 => unC (by omega)

theorem resolve_inRange (e : Bool) (a : Word) : (resolve e a).inRange := by
  apply resolve_elim <;> intros <;> simp only [Target.inRange] <;> omega

/-- Only 0xFF50 is the boot latch. -/
theorem resolve_eq_bootLatch {e : Bool} {a : Word} : resolve e a = .bootLatch ↔ a = 0xFF50 := by
  constructor
  · refine resolve_elim (P := fun t => t = .bootLatch → a = 0xFF50) e a ?_ ?_ ?_ ?_ ?_ ?_ ?_ ?_ ?_ ?_ ?_
      ?_ ?_ ?_ <;> intros <;> first
      | exact BitVec.eq_of_toNat_eq ‹a.toNat = 0xFF50›
      | contradiction
  · rintro rfl; cases e <;> rfl

/-- Only 0xFF02 is the serial control register. -/
theorem resolve_eq_serialCtrl {e : Bool} {a : Word} : resolve e a = .serialCtrl ↔ a = 0xFF02 := by
  constructor
  · refine resolve_elim (P := fun t => t = .serialCtrl → a = 0xFF02) e a ?_ ?_ ?_ ?_ ?_ ?_ ?_ ?_ ?_ ?_ ?_
      ?_ ?_ ?_ <;> intros <;> first
      | exact BitVec.eq_of_toNat_eq ‹a.toNat = 0xFF02›
      | contradiction
  · rintro rfl; cases e <;> rfl

/-- The overlay latch matters in the boot-ROM window only (R55). -/
theorem resolve_of_window {e e' : Bool} {a : Word} (h : ¬ a.toNat ≤ 0x00FF) :
    resolve e a = resolve e' a := by
  unfold resolve; simp [h]

/-! ### What a byte write changes -/

@[simp] theorem Bus.write8_bootEn (b : Bus) (x : Word) (v : Byte) :
    (b.write8 x v).bootEn = (b.bootEn && decide (x ≠ 0xFF50)) := by
  unfold Bus.write8
  by_cases h : x = 0xFF50
  · rw [resolve_eq_bootLatch.mpr h]; simp [Bus.writeTarget, h]
  · have h' : resolve b.bootEn x ≠ .bootLatch := fun hr => h (resolve_eq_bootLatch.mp hr)
    cases hr : resolve b.bootEn x <;> simp_all [Bus.writeTarget, Bus.writeSerialCtrl]
    split <;> rfl

theorem Bus.write8_serialOut (b : Bus) (x : Word) (v : Byte) :
    (b.write8 x v).serialOut =
      if x = 0xFF02 ∧ v = 0x81 then b.serialOut ++ [b.serialData] else b.serialOut := by
  unfold Bus.write8
  by_cases h : x = 0xFF02
  · rw [resolve_eq_serialCtrl.mpr h]
    simp only [Bus.writeTarget, Bus.writeSerialCtrl, h, true_and]
    split <;> rfl
  · have h' : resolve b.bootEn x ≠ .serialCtrl := fun hr => h (resolve_eq_serialCtrl.mp hr)
    cases hr : resolve b.bootEn x <;> simp_all [Bus.writeTarget]

/-- What a target reads as after a byte is written to a target. -/
theorem Bus.readTarget_writeTarget (b : Bus) (t u : Target) (v : Byte) :
    (b.writeTarget t v).readTarget u = if u = t ∧ t.isCell = true then v else b.readTarget u := by
  have key : ∀ (m : Memory) (i j : Nat),
      Memory.load (Memory.store m i v) j = if j = i then v else Memory.load m j := by
    intro m i j
    rw [Memory.load_store]
    by_cases h : i = j
    · simp [h]
    · simp [h, Ne.symm h]
  cases t <;> cases u <;>
    simp [Bus.writeTarget, Bus.readTarget, Target.isCell, key, Bus.writeSerialCtrl] <;>
    split <;> rfl

/-- A read after a byte write to any address but the boot latch: the byte at every name of the cell
written, everything else as before. -/
theorem Bus.read8_write8 (b : Bus) {x : Word} (a : Word) (v : Byte) (hx : x ≠ 0xFF50) :
    (b.write8 x v).read8 a =
      if resolve b.bootEn a = resolve b.bootEn x ∧ (resolve b.bootEn x).isCell = true then v
      else b.read8 a := by
  have he : (b.writeTarget (resolve b.bootEn x) v).bootEn = b.bootEn := by
    have := Bus.write8_bootEn b x v
    unfold Bus.write8 at this
    rw [this, decide_eq_true hx, Bool.and_true]
  unfold Bus.read8 Bus.write8
  rw [he, Bus.readTarget_writeTarget]

/-- A write to the boot latch changes only the latch. -/
theorem Bus.write8_bootLatch (b : Bus) (v : Byte) :
    b.write8 0xFF50 v = { b with bootEn := false } := by
  unfold Bus.write8
  rw [resolve_eq_bootLatch.mpr rfl]
  rfl

/-- A byte write changes no address it does not touch. -/
theorem Bus.read8_write8_untouched (b : Bus) {x a : Word} (v : Byte) (h : ¬ Touches b x a) :
    (b.write8 x v).read8 a = b.read8 a := by
  unfold Touches at h
  push Not at h
  by_cases hx : x = 0xFF50
  · subst hx
    rw [Bus.write8_bootLatch]
    have ha : ¬ a.toNat ≤ 0x00FF := by have := h.2 rfl; omega
    unfold Bus.read8
    rw [resolve_of_window (e' := b.bootEn) ha]
    cases resolve b.bootEn a <;> rfl
  · rw [Bus.read8_write8 b a v hx]
    simp [h.1]

/-- What a byte write touches after another byte write: no more than before it. -/
theorem Touches.after_write8 {b : Bus} {x y a : Word} {v : Byte} (hy : ¬ y.toNat ≤ 0x00FF ∨ x ≠ 0xFF50)
    (hxa : ¬ Touches b x a) (h : Touches (b.write8 x v) y a) : Touches b y a := by
  unfold Touches at *
  push Not at hxa
  rcases h with h | h
  · left
    by_cases hx : x = 0xFF50
    · subst hx
      have ha : ¬ a.toNat ≤ 0x00FF := by have := hxa.2 rfl; omega
      rcases hy with hy | hy
      · rwa [resolve_of_window (e' := b.bootEn) ha, resolve_of_window (e' := b.bootEn) hy] at h
      · exact absurd rfl hy
    · rwa [Bus.write8_bootEn, decide_eq_true hx, Bool.and_true] at h
  · exact .inr h

/-- A 16-bit write changes no address that neither of its two bytes touches. -/
theorem Bus.read8_write16_untouched (b : Bus) {x a : Word} (v : Word) (h0 : ¬ Touches b x a)
    (h1 : ¬ Touches b (x + 1) a) : (b.write16 x v).read8 a = b.read8 a := by
  unfold Bus.write16
  rw [Bus.read8_write8_untouched, Bus.read8_write8_untouched _ _ h0]
  intro h
  refine h1 (Touches.after_write8 ?_ h0 h)
  by_cases hx : x = 0xFF50
  · left; subst hx; decide
  · exact .inr hx

/-! ### Canonical form -/

theorem Bus.wf_iff (b : Bus) : b.wf = true ↔
    Memory.wf 256 b.boot = true ∧ Memory.wf 32768 b.cart = true ∧ Memory.wf 8192 b.vram = true ∧
    Memory.wf 8192 b.wram = true ∧ Memory.wf 128 b.io = true ∧ Memory.wf 127 b.hram = true := by
  simp [Bus.wf, and_assoc]

theorem Bus.wf_writeTarget {b : Bus} {t : Target} (v : Byte) (ht : t.inRange) (h : b.wf = true) :
    (b.writeTarget t v).wf = true := by
  rw [Bus.wf_iff] at h ⊢
  obtain ⟨h1, h2, h3, h4, h5, h6⟩ := h
  cases t <;>
    simp only [Target.inRange, Bus.writeTarget, Bus.writeSerialCtrl] at * <;>
    (try split) <;>
    refine ⟨?_, ?_, ?_, ?_, ?_, ?_⟩ <;>
    first
      | assumption
      | exact Memory.wf_store v ‹_› ht

/-- A byte write keeps every array in canonical form. -/
theorem Bus.wf_write8 {b : Bus} (x : Word) (v : Byte) (h : b.wf = true) : (b.write8 x v).wf = true :=
  Bus.wf_writeTarget v (resolve_inRange _ _) h

/-- So does a 16-bit write. -/
theorem Bus.wf_write16 {b : Bus} (x : Word) (v : Word) (h : b.wf = true) :
    (b.write16 x v).wf = true :=
  Bus.wf_write8 _ _ (Bus.wf_write8 _ _ h)

theorem Bus.wf_resetWith (p : ResetParams) : (Bus.resetWith p).wf = p.wf := rfl

end Sys2Proof.Machine
end

