-- ==== Sys2Proof/Laws/Decode.lean ====
section
/-! SUPPORT. What the decoder reads, and from how many bytes. -/

namespace Sys2Proof

open Sys2Proof.Machine

/-- The second byte decides alone after the prefix (R106). -/
theorem decode_cb (cb : Byte) (rest : List Byte) :
    decode (0xCB :: cb :: rest) = .ok ((decodeCB cb).instr, rest) := rfl

theorem instrLength_cases (b0 : Byte) : instrLength b0 = 1 ∨ instrLength b0 = 2 ∨ instrLength b0 = 3 := by
  unfold instrLength
  split_ifs <;> simp

/-- A second byte after the prefix encodes back, and is never the prefix alone. -/
theorem encode_decodeCB (cb : Byte) :
    encode (decodeCB cb).instr = [0xCB, cb] ∧ (decodeCB cb).instr ≠ .prefix_CB := by
  have h : ∀ n : Fin 256, encode (decodeCB (BitVec.ofFin n)).instr = [0xCB, BitVec.ofFin n] ∧
      (decodeCB (BitVec.ofFin n)).instr ≠ .prefix_CB := by decide +kernel
  exact h cb.toFin

/-- The number of immediate bytes of a form. -/
def Form.immBytes : Form → Nat
  | .jr _ => 1
  | .jrIf _ _ => 1
  | .ldRegImm _ _ => 1
  | .ldHLImm _ => 1
  | .ldhStore _ => 1
  | .ldhLoad _ => 1
  | .addSP _ => 1
  | .ldHLSP _ => 1
  | .aluImm _ _ => 1
  | .ldAbsSP _ => 2
  | .ldRpImm _ _ => 2
  | .ldAbsStore _ => 2
  | .ldAbsLoad _ => 2
  | .jp _ => 2
  | .jpIf _ _ => 2
  | .call _ => 2
  | .callIf _ _ => 2
  | _ => 0

/-- The form with other immediate bytes. -/
def Form.withImm (f : Form) (b1 b2 : Byte) : Form :=
  match f with
  | .jr _ => .jr b1
  | .jrIf cc _ => .jrIf cc b1
  | .ldRegImm r _ => .ldRegImm r b1
  | .ldHLImm _ => .ldHLImm b1
  | .ldhStore _ => .ldhStore b1
  | .ldhLoad _ => .ldhLoad b1
  | .addSP _ => .addSP b1
  | .ldHLSP _ => .ldHLSP b1
  | .aluImm op _ => .aluImm op b1
  | .ldAbsSP _ => .ldAbsSP (joinBytes b2 b1)
  | .ldRpImm p _ => .ldRpImm p (joinBytes b2 b1)
  | .ldAbsStore _ => .ldAbsStore (joinBytes b2 b1)
  | .ldAbsLoad _ => .ldAbsLoad (joinBytes b2 b1)
  | .jp _ => .jp (joinBytes b2 b1)
  | .jpIf cc _ => .jpIf cc (joinBytes b2 b1)
  | .call _ => .call (joinBytes b2 b1)
  | .callIf cc _ => .callIf cc (joinBytes b2 b1)
  | f => f

theorem decodeBlock0_withImm (b0 b1 b2 : Byte) :
    decodeBlock0 b0 b1 b2 = (decodeBlock0 b0 0 0).withImm b1 b2 := by
  unfold decodeBlock0
  split <;> (try split) <;> rfl

theorem decodeBlock3_withImm (b0 b1 b2 : Byte) :
    decodeBlock3 b0 b1 b2 = (decodeBlock3 b0 0 0).withImm b1 b2 := by
  unfold decodeBlock3
  split <;> (try split) <;> rfl

/-- The second and the third byte are immediate bytes and nothing else. -/
theorem decodeForm_withImm (b0 b1 b2 : Byte) (hcb : b0 ≠ 0xCB) :
    decodeForm b0 b1 b2 = (decodeForm b0 0 0).withImm b1 b2 := by
  unfold decodeForm
  rw [if_neg hcb, if_neg hcb]
  split
  · exact decodeBlock0_withImm b0 b1 b2
  · unfold decodeBlock1
    split <;> rfl
  · rfl
  · exact decodeBlock3_withImm b0 b1 b2

/-- The first byte's length and encoding, with zero immediate bytes. -/
theorem decodeForm_first (b0 : Byte) (hcb : b0 ≠ 0xCB) :
    instrLength b0 = 1 + (decodeForm b0 0 0).immBytes ∧
    encode (decodeForm b0 0 0).instr = [b0, 0, 0].take (instrLength b0) := by
  revert hcb
  have h : ∀ n : Fin 256, (BitVec.ofFin n : Byte) ≠ 0xCB →
      instrLength (BitVec.ofFin n) = 1 + (decodeForm (BitVec.ofFin n) 0 0).immBytes ∧
      encode (decodeForm (BitVec.ofFin n) 0 0).instr =
        ([BitVec.ofFin n, 0, 0] : List Byte).take (instrLength (BitVec.ofFin n)) := by decide +kernel
  exact h b0.toFin

theorem Form.withImm_eq (f : Form) (b1 b2 : Byte) :
    (f.immBytes = 0 → f.withImm b1 b2 = f) ∧ (f.immBytes ≤ 1 → f.withImm b1 b2 = f.withImm b1 0) := by
  cases f <;> simp [Form.immBytes, Form.withImm]

/-- The bytes after an instruction's last are not looked at. -/
theorem decodeForm_short (b0 : Byte) (hcb : b0 ≠ 0xCB) :
    (instrLength b0 = 1 → ∀ b1 b2, decodeForm b0 b1 b2 = decodeForm b0 0 0) ∧
    (instrLength b0 = 2 → ∀ b1 b2, decodeForm b0 b1 b2 = decodeForm b0 b1 0) := by
  have hl := (decodeForm_first b0 hcb).1
  refine ⟨fun h b1 b2 => ?_, fun h b1 b2 => ?_⟩
  · rw [decodeForm_withImm b0 b1 b2 hcb]
    exact ((decodeForm b0 0 0).withImm_eq b1 b2).1 (by omega)
  · rw [decodeForm_withImm b0 b1 b2 hcb, decodeForm_withImm b0 b1 0 hcb]
    exact ((decodeForm b0 0 0).withImm_eq b1 b2).2 (by omega)

/-- Decoding three bytes or more: the instruction the fetch reads, and what is left. -/
theorem decode_three (b0 b1 b2 : Byte) (rest : List Byte) :
    decode (b0 :: b1 :: b2 :: rest) =
      .ok (decodeBytes b0 b1 b2, (b0 :: b1 :: b2 :: rest).drop (instrLength b0)) := by
  by_cases hc : b0 = 0xCB
  · subst hc
    rfl
  · unfold decode
    simp only [hc, if_false]
    obtain ⟨i1, i2⟩ := decodeForm_short b0 hc
    rcases instrLength_cases b0 with hl | hl | hl <;> rw [hl]
    · simp only [decodeBytes]
      rw [i1 hl b1 b2]
      rfl
    · simp only [decodeBytes]
      rw [i2 hl b1 b2]
      rfl
    · rfl

/-- How immediate bytes stand in the encoding. -/
theorem encode_withImm (f : Form) (b1 b2 : Byte) :
    encode (f.withImm b1 b2).instr =
      (encode f.instr).take 1 ++ (if f.immBytes = 0 then (encode f.instr).drop 1
        else [b1, b2].take f.immBytes) := by
  have h : ∀ (b0 : Byte), b0 :: loByte (joinBytes b2 b1) :: hiByte (joinBytes b2 b1) :: [] = [b0, b1, b2] :=
    fun b0 => by rw [loByte_joinBytes, hiByte_joinBytes]
  by_cases h0 : f.immBytes = 0
  · rw [if_pos h0, (f.withImm_eq b1 b2).1 h0, List.take_append_drop]
  · rw [if_neg h0]
    cases f with
    | jrIf cc e => cases cc <;> rfl
    | ldRegImm r n => cases r <;> rfl
    | aluImm op n => cases op <;> rfl
    | ldRpImm p nn => cases p <;> exact h _
    | jpIf cc nn => cases cc <;> exact h _
    | callIf cc nn => cases cc <;> exact h _
    | ldAbsSP nn => exact h _
    | ldAbsStore nn => exact h _
    | ldAbsLoad nn => exact h _
    | jp nn => exact h _
    | call nn => exact h _
    | _ => first | rfl | exact absurd rfl h0

/-- The instruction of three bytes encodes back to the first of them that are its own. -/
theorem encode_decodeForm (b0 b1 b2 : Byte) (hcb : b0 ≠ 0xCB) :
    encode (decodeForm b0 b1 b2).instr = [b0, b1, b2].take (instrLength b0) := by
  obtain ⟨hl, he⟩ := decodeForm_first b0 hcb
  rw [decodeForm_withImm b0 b1 b2 hcb, encode_withImm, he]
  rcases instrLength_cases b0 with h | h | h
  · have h0 : (decodeForm b0 0 0).immBytes = 0 := by omega
    rw [if_pos h0, h]
    rfl
  · have h0 : (decodeForm b0 0 0).immBytes = 1 := by omega
    rw [h0, h]
    rfl
  · have h0 : (decodeForm b0 0 0).immBytes = 2 := by omega
    rw [h0, h]
    rfl

end Sys2Proof
end

