-- ==== Sys2Proof/Laws/Form.lean ====
section
/-! SUPPORT. Every instruction through its form: one equation that replaces the 512 arms of `exec` by
the operation of the form, and once what an operation can do. -/

namespace Sys2Proof.Machine

open Sys2Proof

/-- The operation of each form. -/
def Form.run : Form → State → Result
  | .nop => noEffect
  | .halt => noEffect
  | .stop => stop
  | .di => noEffect
  | .ei => noEffect
  | .illegal x => illegal x
  | .prefixCB => prefixCB
  | .ldRegReg dst src => ldRegReg dst src
  | .ldRegHL dst => ldRegHL dst
  | .ldHLReg r => ldHLReg r
  | .ldRegImm dst n => ldRegImm dst n
  | .ldHLImm n => ldHLImm n
  | .storeA i => storeA i
  | .loadA i => loadA i
  | .ldhStore n => ldhStore n
  | .ldhLoad n => ldhLoad n
  | .ldCStore => ldCStore
  | .ldCLoad => ldCLoad
  | .ldAbsStore nn => ldAbsStore nn
  | .ldAbsLoad nn => ldAbsLoad nn
  | .ldRpImm p nn => ldRpImm p nn
  | .ldAbsSP nn => ldAbsSP nn
  | .ldSPHL => ldSPHL
  | .ldHLSP e => ldHLSP e
  | .alu op o => aluOperand op o
  | .aluImm op n => aluImm op n
  | .inc o => incOp o
  | .dec o => decOp o
  | .daa => daa
  | .cpl => cpl
  | .scf => scf
  | .ccf => ccf
  | .addHL p => addHLPair p
  | .addSP e => addSPImm e
  | .incRp p => incPair p
  | .decRp p => decPair p
  | .rotA k => rotAcc k
  | .rot op o => rotShift op o
  | .bit b o => bitTest b o
  | .res b o => bitReset b o
  | .set b o => bitSet b o
  | .jp nn => jpAbs nn
  | .jpIf cc nn => jpAbsIf cc nn
  | .jpHL => jpHL
  | .jr e => jrRel e
  | .jrIf cc e => jrRelIf cc e
  | .call nn => callAbs nn
  | .callIf cc nn => callIf cc nn
  | .ret => ret
  | .retIf cc => retIf cc
  | .reti => ret
  | .rst t => restart t
  | .push p => pushPair p
  | .pop p => popPair p

/-- An instruction runs the operation of its form. -/
theorem exec_eq_run (i : Instr) (s : State) : exec i s = Form.run i.form s := by cases i <;> rfl

theorem instr_form (i : Instr) : i.form.instr = i := by cases i <;> rfl

theorem form_instr (f : Form) : f.instr.form = f := by
  cases f with
  | nop => rfl
  | halt => rfl
  | stop => rfl
  | di => rfl
  | ei => rfl
  | illegal x => cases x <;> rfl
  | prefixCB => rfl
  | ldRegReg dst src => cases dst <;> cases src <;> rfl
  | ldRegHL dst => cases dst <;> rfl
  | ldHLReg r => cases r <;> rfl
  | ldRegImm dst n => cases dst <;> rfl
  | ldHLImm n => rfl
  | storeA i => cases i <;> rfl
  | loadA i => cases i <;> rfl
  | ldhStore n => rfl
  | ldhLoad n => rfl
  | ldCStore => rfl
  | ldCLoad => rfl
  | ldAbsStore nn => rfl
  | ldAbsLoad nn => rfl
  | ldRpImm p nn => cases p <;> rfl
  | ldAbsSP nn => rfl
  | ldSPHL => rfl
  | ldHLSP e => rfl
  | alu op o => cases op <;> cases o with
    | reg r => cases r <;> rfl
    | atHL => rfl
  | aluImm op n => cases op <;> rfl
  | inc o => cases o with
    | reg r => cases r <;> rfl
    | atHL => rfl
  | dec o => cases o with
    | reg r => cases r <;> rfl
    | atHL => rfl
  | daa => rfl
  | cpl => rfl
  | scf => rfl
  | ccf => rfl
  | addHL p => cases p <;> rfl
  | addSP e => rfl
  | incRp p => cases p <;> rfl
  | decRp p => cases p <;> rfl
  | rotA k => cases k <;> rfl
  | rot op o => cases op <;> cases o with
    | reg r => cases r <;> rfl
    | atHL => rfl
  | bit b o => cases o with
    | reg r => cases r <;> cases b <;> rfl
    | atHL => cases b <;> rfl
  | res b o => cases o with
    | reg r => cases r <;> cases b <;> rfl
    | atHL => cases b <;> rfl
  | set b o => cases o with
    | reg r => cases r <;> cases b <;> rfl
    | atHL => cases b <;> rfl
  | jp nn => rfl
  | jpIf cc nn => cases cc <;> rfl
  | jpHL => rfl
  | jr e => rfl
  | jrIf cc e => cases cc <;> rfl
  | call nn => rfl
  | callIf cc nn => cases cc <;> rfl
  | ret => rfl
  | retIf cc => cases cc <;> rfl
  | reti => rfl
  | rst t => cases t <;> rfl
  | push p => cases p <;> rfl
  | pop p => cases p <;> rfl

/-- The instruction of a form runs the form's operation: the one lemma the provers of a statement about
`exec (…).instr` need in place of `exec`. -/
theorem exec_instr (f : Form) (s : State) : exec f.instr s = Form.run f s := by
  rw [exec_eq_run, form_instr]

/-- What an operation answers: a next state, whose bus is the one before, or that one after one byte
write or one 16-bit write. -/
def Effect (s : State) (r : Result) : Prop :=
  ∃ t, r = .next t ∧ (t.bus = s.bus ∨ (∃ a v, t.bus = s.bus.write8 a v) ∨
    ∃ a v, t.bus = s.bus.write16 a v)

theorem Effect.none {s t : State} (h : t.bus = s.bus) : Effect s (.next t) := ⟨t, rfl, .inl h⟩

theorem Effect.byte {s t : State} {a : Word} {v : Byte} (h : t.bus = s.bus.write8 a v) :
    Effect s (.next t) := ⟨t, rfl, .inr (.inl ⟨a, v, h⟩)⟩

theorem Effect.word {s t : State} {a : Word} {v : Word} (h : t.bus = s.bus.write16 a v) :
    Effect s (.next t) := ⟨t, rfl, .inr (.inr ⟨a, v, h⟩)⟩

theorem Effect.operand {s : State} (o : Operand8) (v : Byte) (g : Flags) :
    Effect s (.next ((s.writeOperand o v).setFlags g)) := by
  cases o with
  | reg r => exact .none rfl
  | atHL => exact .byte rfl

theorem Effect.operand' {s : State} (o : Operand8) (v : Byte) :
    Effect s (.next (s.writeOperand o v)) := by
  cases o with
  | reg r => exact .none rfl
  | atHL => exact .byte rfl

theorem aluValue_effect (op : AluOp) (v : Byte) (s : State) : Effect s (aluValue op v s) := by
  cases op <;> exact .none rfl

theorem runCB_effect (cb : Byte) (s : State) : Effect s (runCB cb s) := by
  unfold runCB
  split
  · exact .operand _ _ _
  · exact .none rfl
  · exact .operand' _ _
  · exact .operand' _ _

theorem run_effect (f : Form) (s : State) : Effect s (Form.run f s) := by
  cases f with
  | prefixCB => exact runCB_effect _ (s.setPC (s.pc + 1))
  | alu op o => exact aluValue_effect op _ s
  | aluImm op n => exact aluValue_effect op n s
  | inc o => exact .operand _ _ _
  | dec o => exact .operand _ _ _
  | rot op o => exact .operand _ _ _
  | res b o => exact .operand' _ _
  | set b o => exact .operand' _ _
  | storeA i => exact .byte (by rw [State.indirectUpdate_bus]; rfl)
  | loadA i => exact .none (by rw [State.indirectUpdate_bus]; rfl)
  | ldRpImm p nn => exact .none (State.setRp_bus _ _ _)
  | incRp p => exact .none (State.setRp_bus _ _ _)
  | decRp p => exact .none (State.setRp_bus _ _ _)
  | pop p => exact .none (State.setRp2_bus _ _ _)
  | jpIf cc nn => simp only [Form.run, jpAbsIf]; split <;> exact .none rfl
  | jrIf cc e => simp only [Form.run, jrRelIf]; split <;> exact .none rfl
  | retIf cc => simp only [Form.run, retIf]; split <;> exact .none rfl
  | callIf cc nn =>
    simp only [Form.run, callIf]
    split
    · exact .word rfl
    · exact .none rfl
  | ldHLReg r => exact .byte rfl
  | ldHLImm n => exact .byte rfl
  | ldhStore n => exact .byte rfl
  | ldCStore => exact .byte rfl
  | ldAbsStore nn => exact .byte rfl
  | ldAbsSP nn => exact .word rfl
  | call nn => exact .word rfl
  | rst t => exact .word rfl
  | push p => exact .word rfl
  | _ => exact .none rfl

/-- Every instruction answers a next state, and touches the bus with at most one write (R345, R346). -/
theorem exec_effect (i : Instr) (s : State) : Effect s (exec i s) := by
  rw [exec_eq_run]
  exact run_effect _ _

end Sys2Proof.Machine
end

