-- ==== Sys2Proof/Laws/Frame.lean ====
section
/-! SUPPORT. The frame terms of `Safety.lean` from equations between fields, and what each shared
operation leaves, once. -/

namespace Sys2Proof.Machine

open Sys2Proof

theorem RegsKept.of_eq {s t : State} (h : t.regs = s.regs) : RegsKept s t := by
  intro r _
  rw [State.getReg_eq, State.getReg_eq, h]

theorem RegsKeptBut.of_set {s t : State} {r : Reg8} {v : Byte} (h : t.regs = s.regs.set r v) :
    RegsKeptBut [r] s t := by
  intro q hq
  have hq' : q ≠ r := by simpa using hq
  rw [State.getReg_eq, State.getReg_eq, h, Regs.get_set, if_neg hq']

theorem RegsKeptBut.of_setHL {s t : State} {v : Word} (h : t.regs = s.regs.setHL v) :
    RegsKeptBut [.h, .l] s t := by
  intro q hq
  rw [State.getReg_eq, State.getReg_eq, h]
  cases q <;> first
    | rfl
    | exact absurd hq (by decide)

theorem MemoryKept.of_eq {s t : State} (h : t.bus = s.bus) : MemoryKept s t :=
  ⟨fun a => by rw [State.read8_eq, State.read8_eq, h], by rw [h], by rw [h], h⟩

theorem StoredByte.of_eq {s t : State} {x : Word} {v : Byte} (h : t.bus = s.bus.write8 x v) :
    StoredByte x v s t := by
  refine ⟨h, fun a ha => ?_⟩
  rw [State.read8_eq, h]
  exact Bus.read8_write8_untouched _ _ (ha x (by simp))

theorem StoredWord.of_eq {s t : State} {x : Word} {v : Word} (h : t.bus = s.bus.write16 x v) :
    StoredWord x v s t := by
  refine ⟨h, fun a ha => ?_⟩
  rw [State.read8_eq, h]
  exact Bus.read8_write16_untouched _ _ (ha x (by simp)) (ha (x + 1) (by simp))

theorem OperandGets.of_eq {s t : State} {o : Operand8} {v : Byte}
    (hr : t.regs = (s.writeOperand o v).regs) (hb : t.bus = (s.writeOperand o v).bus) :
    OperandGets o v s t := by
  cases o with
  | reg r =>
    refine ⟨?_, RegsKeptBut.of_set hr, MemoryKept.of_eq hb⟩
    rw [State.getReg_eq, hr]
    simp [State.writeOperand]
  | atHL => exact ⟨RegsKept.of_eq hr, StoredByte.of_eq hb⟩

end Sys2Proof.Machine
end

