-- ==== Sys2Proof/Laws/Step.lean ====
section
/-! SUPPORT. A Step through its parts, and runs of Steps from their other end. -/

namespace Sys2Proof.Machine

open Sys2Proof

/-- A Step of a running state. -/
theorem step_eq_exec (s : State) (hf : s.fault = none) :
    step s = exec (decodeBytes (s.read8 s.pc) (s.read8 (s.pc + 1)) (s.read8 (s.pc + 2)))
      (s.setPC (s.pc + BitVec.ofNat 16 (instrLength (s.read8 s.pc)))) := by
  unfold step fetchInstr fetchedPC
  rw [hf]

/-- The same through the form of the instruction. -/
theorem step_eq_run (s : State) (hf : s.fault = none) :
    step s = Form.run (decodeForm (s.read8 s.pc) (s.read8 (s.pc + 1)) (s.read8 (s.pc + 2)))
      (s.setPC (s.pc + BitVec.ofNat 16 (instrLength (s.read8 s.pc)))) := by
  rw [step_eq_exec s hf, decodeBytes, exec_instr]

/-- A latched state takes no Step. -/
theorem step_latched (s : State) (r : Fault) (h : s.fault = some r) : step s = .fault r := by
  unfold step
  rw [h]

/-- The prefix byte taken on its own runs what the second byte decodes to. -/
theorem runCB_eq_exec (cb : Byte) (s : State) : runCB cb s = exec (decodeCB cb).instr s := by
  rw [exec_instr]
  unfold runCB decodeCB
  generalize fieldBlk cb = n
  match n with
  | 0 => rfl
  | 1 => rfl
  | 2 => rfl
  | _ + 3 => rfl

theorem Reaches.snoc {s t u : State} (h : Reaches s t) (hs : Machine.step t = .next u) : Reaches s u := by
  induction h with
  | refl s => exact .step _ _ _ hs (.refl _)
  | step s t v h1 _ ih => exact .step _ _ _ h1 (ih hs)

/-- A state reached is the start, or the next state of a state reached. -/
theorem Reaches.last {s t : State} (h : Reaches s t) :
    s = t ∨ ∃ u, Reaches s u ∧ Machine.step u = .next t := by
  induction h with
  | refl s => exact .inl rfl
  | step s t v h1 _ ih =>
    rcases ih with rfl | ⟨w, hw, hs⟩
    · exact .inr ⟨s, .refl _, h1⟩
    · exact .inr ⟨w, .step _ _ _ h1 hw, hs⟩

end Sys2Proof.Machine
end

