-- ==== Sys2Proof/Tests/Slice0.lean ====
section
/-! SUPPORT. Tests. A test named `test_V<k>_…` takes its start and its expected end from vector V<k> of
95_test_vectors.md, `test_M<k>` from bus sequence M<k> there; a decoding test writes its word out from the
spec's encoding. A theorem `witness_<Name>` shows a state and operands that meet the hypotheses of
`Obligations.<Name>`, at the ends of their ranges. -/

namespace Sys2Proof.Tests

open Sys2Proof Sys2Proof.Machine

/-- The next state an outcome holds. -/
def nextOf : Host.Outcome State Fault Refusal → Option State
  | .next t => some t
  | .fault _ => none
  | .refused _ => none

theorem next_of {o : Host.Outcome State Fault Refusal} {t : State} (h : nextOf o = some t) : o = .next t := by
  cases o <;> simp_all [nextOf]

/-- The base state of the spec's vectors (95_test_vectors.md). -/
def base : State := State.reset

/-- The state after one Step from `s` with `bytes` put at pc. -/
def after (bytes : List Byte) (s : State) : Option State :=
  nextOf (step { s with bus := s.bus.placeBytes s.pc bytes })

/-- The same state before the Step. -/
def ready (bytes : List Byte) (s : State) : State := { s with bus := s.bus.placeBytes s.pc bytes }

/-! ### Decoding: every row of the table, its bytes written from the row's `encoding`, the immediate bytes
being 0x85 (n, e) and 0x34 0x92 (nn). Decoding is `Except`, so the rows are read through `decodesTo`. -/

/-- Each row's bytes decode to its instruction with nothing left, and encode from it. -/
def decodesTo (rows : List (List Byte × Instr)) : Bool :=
  rows.all fun r => encode r.2 == r.1 &&
    (decode r.1).toOption == some (r.2, []) && r.2.wellFormed == (r.1 != [0xCB])

theorem test_decode_block0_0 : decodesTo [
    ([0x00], .nop), ([0x01, 0x34, 0x92], .ld_BC_nn 0x9234), ([0x02], .ld_atBC_A), ([0x03], .inc_BC),
    ([0x04], .inc_B), ([0x05], .dec_B), ([0x06, 0x85], .ld_B_n 0x85), ([0x07], .rlca),
    ([0x08, 0x34, 0x92], .ld_atnn_SP 0x9234), ([0x09], .add_HL_BC), ([0x0A], .ld_A_atBC),
    ([0x0B], .dec_BC), ([0x0C], .inc_C), ([0x0D], .dec_C), ([0x0E, 0x85], .ld_C_n 0x85), ([0x0F], .rrca)] = true := by
  decide

theorem test_decode_block0_1 : decodesTo [
    ([0x10], .stop), ([0x11, 0x34, 0x92], .ld_DE_nn 0x9234), ([0x12], .ld_atDE_A), ([0x13], .inc_DE),
    ([0x14], .inc_D), ([0x15], .dec_D), ([0x16, 0x85], .ld_D_n 0x85), ([0x17], .rla),
    ([0x18, 0x85], .jr_e 0x85), ([0x19], .add_HL_DE), ([0x1A], .ld_A_atDE), ([0x1B], .dec_DE),
    ([0x1C], .inc_E), ([0x1D], .dec_E), ([0x1E, 0x85], .ld_E_n 0x85), ([0x1F], .rra)] = true := by
  decide

theorem test_decode_block0_2 : decodesTo [
    ([0x20, 0x85], .jr_NZ_e 0x85), ([0x21, 0x34, 0x92], .ld_HL_nn 0x9234), ([0x22], .ld_atHLinc_A),
    ([0x23], .inc_HL), ([0x24], .inc_H), ([0x25], .dec_H), ([0x26, 0x85], .ld_H_n 0x85),
    ([0x27], .daa), ([0x28, 0x85], .jr_Z_e 0x85), ([0x29], .add_HL_HL), ([0x2A], .ld_A_atHLinc),
    ([0x2B], .dec_HL), ([0x2C], .inc_L), ([0x2D], .dec_L), ([0x2E, 0x85], .ld_L_n 0x85), ([0x2F], .cpl)] = true := by
  decide

theorem test_decode_block0_3 : decodesTo [
    ([0x30, 0x85], .jr_NC_e 0x85), ([0x31, 0x34, 0x92], .ld_SP_nn 0x9234), ([0x32], .ld_atHLdec_A),
    ([0x33], .inc_SP), ([0x34], .inc_atHL), ([0x35], .dec_atHL), ([0x36, 0x85], .ld_atHL_n 0x85),
    ([0x37], .scf), ([0x38, 0x85], .jr_C_e 0x85), ([0x39], .add_HL_SP), ([0x3A], .ld_A_atHLdec),
    ([0x3B], .dec_SP), ([0x3C], .inc_A), ([0x3D], .dec_A), ([0x3E, 0x85], .ld_A_n 0x85), ([0x3F], .ccf)] = true := by
  decide

theorem test_decode_block1_0 : decodesTo [
    ([0x40], .ld_B_B), ([0x41], .ld_B_C), ([0x42], .ld_B_D), ([0x43], .ld_B_E), ([0x44], .ld_B_H),
    ([0x45], .ld_B_L), ([0x46], .ld_B_atHL), ([0x47], .ld_B_A), ([0x48], .ld_C_B), ([0x49], .ld_C_C),
    ([0x4A], .ld_C_D), ([0x4B], .ld_C_E), ([0x4C], .ld_C_H), ([0x4D], .ld_C_L), ([0x4E], .ld_C_atHL),
    ([0x4F], .ld_C_A)] = true := by decide

theorem test_decode_block1_1 : decodesTo [
    ([0x50], .ld_D_B), ([0x51], .ld_D_C), ([0x52], .ld_D_D), ([0x53], .ld_D_E), ([0x54], .ld_D_H),
    ([0x55], .ld_D_L), ([0x56], .ld_D_atHL), ([0x57], .ld_D_A), ([0x58], .ld_E_B), ([0x59], .ld_E_C),
    ([0x5A], .ld_E_D), ([0x5B], .ld_E_E), ([0x5C], .ld_E_H), ([0x5D], .ld_E_L), ([0x5E], .ld_E_atHL),
    ([0x5F], .ld_E_A)] = true := by decide

theorem test_decode_block1_2 : decodesTo [
    ([0x60], .ld_H_B), ([0x61], .ld_H_C), ([0x62], .ld_H_D), ([0x63], .ld_H_E), ([0x64], .ld_H_H),
    ([0x65], .ld_H_L), ([0x66], .ld_H_atHL), ([0x67], .ld_H_A), ([0x68], .ld_L_B), ([0x69], .ld_L_C),
    ([0x6A], .ld_L_D), ([0x6B], .ld_L_E), ([0x6C], .ld_L_H), ([0x6D], .ld_L_L), ([0x6E], .ld_L_atHL),
    ([0x6F], .ld_L_A)] = true := by decide

theorem test_decode_block1_3 : decodesTo [
    ([0x70], .ld_atHL_B), ([0x71], .ld_atHL_C), ([0x72], .ld_atHL_D), ([0x73], .ld_atHL_E),
    ([0x74], .ld_atHL_H), ([0x75], .ld_atHL_L), ([0x76], .halt), ([0x77], .ld_atHL_A),
    ([0x78], .ld_A_B), ([0x79], .ld_A_C), ([0x7A], .ld_A_D), ([0x7B], .ld_A_E), ([0x7C], .ld_A_H),
    ([0x7D], .ld_A_L), ([0x7E], .ld_A_atHL), ([0x7F], .ld_A_A)] = true := by decide

theorem test_decode_block2_0 : decodesTo [
    ([0x80], .add_A_B), ([0x81], .add_A_C), ([0x82], .add_A_D), ([0x83], .add_A_E), ([0x84], .add_A_H),
    ([0x85], .add_A_L), ([0x86], .add_A_atHL), ([0x87], .add_A_A), ([0x88], .adc_A_B),
    ([0x89], .adc_A_C), ([0x8A], .adc_A_D), ([0x8B], .adc_A_E), ([0x8C], .adc_A_H), ([0x8D], .adc_A_L),
    ([0x8E], .adc_A_atHL), ([0x8F], .adc_A_A)] = true := by decide

theorem test_decode_block2_1 : decodesTo [
    ([0x90], .sub_B), ([0x91], .sub_C), ([0x92], .sub_D), ([0x93], .sub_E), ([0x94], .sub_H),
    ([0x95], .sub_L), ([0x96], .sub_atHL), ([0x97], .sub_A), ([0x98], .sbc_A_B), ([0x99], .sbc_A_C),
    ([0x9A], .sbc_A_D), ([0x9B], .sbc_A_E), ([0x9C], .sbc_A_H), ([0x9D], .sbc_A_L),
    ([0x9E], .sbc_A_atHL), ([0x9F], .sbc_A_A)] = true := by decide

theorem test_decode_block2_2 : decodesTo [
    ([0xA0], .and_B), ([0xA1], .and_C), ([0xA2], .and_D), ([0xA3], .and_E), ([0xA4], .and_H),
    ([0xA5], .and_L), ([0xA6], .and_atHL), ([0xA7], .and_A), ([0xA8], .xor_B), ([0xA9], .xor_C),
    ([0xAA], .xor_D), ([0xAB], .xor_E), ([0xAC], .xor_H), ([0xAD], .xor_L), ([0xAE], .xor_atHL),
    ([0xAF], .xor_A)] = true := by decide

theorem test_decode_block2_3 : decodesTo [
    ([0xB0], .or_B), ([0xB1], .or_C), ([0xB2], .or_D), ([0xB3], .or_E), ([0xB4], .or_H),
    ([0xB5], .or_L), ([0xB6], .or_atHL), ([0xB7], .or_A), ([0xB8], .cp_B), ([0xB9], .cp_C),
    ([0xBA], .cp_D), ([0xBB], .cp_E), ([0xBC], .cp_H), ([0xBD], .cp_L), ([0xBE], .cp_atHL),
    ([0xBF], .cp_A)] = true := by decide

theorem test_decode_block3_0 : decodesTo [
    ([0xC0], .ret_NZ), ([0xC1], .pop_BC), ([0xC2, 0x34, 0x92], .jp_NZ_nn 0x9234),
    ([0xC3, 0x34, 0x92], .jp_nn 0x9234), ([0xC4, 0x34, 0x92], .call_NZ_nn 0x9234), ([0xC5], .push_BC),
    ([0xC6, 0x85], .add_A_n 0x85), ([0xC7], .rst_00), ([0xC8], .ret_Z), ([0xC9], .ret),
    ([0xCA, 0x34, 0x92], .jp_Z_nn 0x9234), ([0xCB], .prefix_CB),
    ([0xCC, 0x34, 0x92], .call_Z_nn 0x9234), ([0xCD, 0x34, 0x92], .call_nn 0x9234),
    ([0xCE, 0x85], .adc_A_n 0x85), ([0xCF], .rst_08)] = true := by decide

theorem test_decode_block3_1 : decodesTo [
    ([0xD0], .ret_NC), ([0xD1], .pop_DE), ([0xD2, 0x34, 0x92], .jp_NC_nn 0x9234),
    ([0xD3], .illegal_D3), ([0xD4, 0x34, 0x92], .call_NC_nn 0x9234), ([0xD5], .push_DE),
    ([0xD6, 0x85], .sub_n 0x85), ([0xD7], .rst_10), ([0xD8], .ret_C), ([0xD9], .reti),
    ([0xDA, 0x34, 0x92], .jp_C_nn 0x9234), ([0xDB], .illegal_DB),
    ([0xDC, 0x34, 0x92], .call_C_nn 0x9234), ([0xDD], .illegal_DD), ([0xDE, 0x85], .sbc_A_n 0x85),
    ([0xDF], .rst_18)] = true := by decide

theorem test_decode_block3_2 : decodesTo [
    ([0xE0, 0x85], .ldh_atn_A 0x85), ([0xE1], .pop_HL), ([0xE2], .ld_atC_A), ([0xE3], .illegal_E3),
    ([0xE4], .illegal_E4), ([0xE5], .push_HL), ([0xE6, 0x85], .and_n 0x85), ([0xE7], .rst_20),
    ([0xE8, 0x85], .add_SP_e 0x85), ([0xE9], .jp_HL), ([0xEA, 0x34, 0x92], .ld_atnn_A 0x9234),
    ([0xEB], .illegal_EB), ([0xEC], .illegal_EC), ([0xED], .illegal_ED), ([0xEE, 0x85], .xor_n 0x85),
    ([0xEF], .rst_28)] = true := by decide

theorem test_decode_block3_3 : decodesTo [
    ([0xF0, 0x85], .ldh_A_atn 0x85), ([0xF1], .pop_AF), ([0xF2], .ld_A_atC), ([0xF3], .di),
    ([0xF4], .illegal_F4), ([0xF5], .push_AF), ([0xF6, 0x85], .or_n 0x85), ([0xF7], .rst_30),
    ([0xF8, 0x85], .ld_HL_SPe 0x85), ([0xF9], .ld_SP_HL), ([0xFA, 0x34, 0x92], .ld_A_atnn 0x9234),
    ([0xFB], .ei), ([0xFC], .illegal_FC), ([0xFD], .illegal_FD), ([0xFE, 0x85], .cp_n 0x85),
    ([0xFF], .rst_38)] = true := by decide

theorem test_decode_cb0_0 : decodesTo [
    ([0xCB, 0x00], .rlc_B), ([0xCB, 0x01], .rlc_C), ([0xCB, 0x02], .rlc_D), ([0xCB, 0x03], .rlc_E),
    ([0xCB, 0x04], .rlc_H), ([0xCB, 0x05], .rlc_L), ([0xCB, 0x06], .rlc_atHL), ([0xCB, 0x07], .rlc_A),
    ([0xCB, 0x08], .rrc_B), ([0xCB, 0x09], .rrc_C), ([0xCB, 0x0A], .rrc_D), ([0xCB, 0x0B], .rrc_E),
    ([0xCB, 0x0C], .rrc_H), ([0xCB, 0x0D], .rrc_L), ([0xCB, 0x0E], .rrc_atHL), ([0xCB, 0x0F], .rrc_A)] = true := by
  decide

theorem test_decode_cb0_1 : decodesTo [
    ([0xCB, 0x10], .rl_B), ([0xCB, 0x11], .rl_C), ([0xCB, 0x12], .rl_D), ([0xCB, 0x13], .rl_E),
    ([0xCB, 0x14], .rl_H), ([0xCB, 0x15], .rl_L), ([0xCB, 0x16], .rl_atHL), ([0xCB, 0x17], .rl_A),
    ([0xCB, 0x18], .rr_B), ([0xCB, 0x19], .rr_C), ([0xCB, 0x1A], .rr_D), ([0xCB, 0x1B], .rr_E),
    ([0xCB, 0x1C], .rr_H), ([0xCB, 0x1D], .rr_L), ([0xCB, 0x1E], .rr_atHL), ([0xCB, 0x1F], .rr_A)] = true := by
  decide

theorem test_decode_cb0_2 : decodesTo [
    ([0xCB, 0x20], .sla_B), ([0xCB, 0x21], .sla_C), ([0xCB, 0x22], .sla_D), ([0xCB, 0x23], .sla_E),
    ([0xCB, 0x24], .sla_H), ([0xCB, 0x25], .sla_L), ([0xCB, 0x26], .sla_atHL), ([0xCB, 0x27], .sla_A),
    ([0xCB, 0x28], .sra_B), ([0xCB, 0x29], .sra_C), ([0xCB, 0x2A], .sra_D), ([0xCB, 0x2B], .sra_E),
    ([0xCB, 0x2C], .sra_H), ([0xCB, 0x2D], .sra_L), ([0xCB, 0x2E], .sra_atHL), ([0xCB, 0x2F], .sra_A)] = true := by
  decide

theorem test_decode_cb0_3 : decodesTo [
    ([0xCB, 0x30], .swap_B), ([0xCB, 0x31], .swap_C), ([0xCB, 0x32], .swap_D), ([0xCB, 0x33], .swap_E),
    ([0xCB, 0x34], .swap_H), ([0xCB, 0x35], .swap_L), ([0xCB, 0x36], .swap_atHL),
    ([0xCB, 0x37], .swap_A), ([0xCB, 0x38], .srl_B), ([0xCB, 0x39], .srl_C), ([0xCB, 0x3A], .srl_D),
    ([0xCB, 0x3B], .srl_E), ([0xCB, 0x3C], .srl_H), ([0xCB, 0x3D], .srl_L), ([0xCB, 0x3E], .srl_atHL),
    ([0xCB, 0x3F], .srl_A)] = true := by decide

theorem test_decode_cb1_0 : decodesTo [
    ([0xCB, 0x40], .bit_0_B), ([0xCB, 0x41], .bit_0_C), ([0xCB, 0x42], .bit_0_D),
    ([0xCB, 0x43], .bit_0_E), ([0xCB, 0x44], .bit_0_H), ([0xCB, 0x45], .bit_0_L),
    ([0xCB, 0x46], .bit_0_atHL), ([0xCB, 0x47], .bit_0_A), ([0xCB, 0x48], .bit_1_B),
    ([0xCB, 0x49], .bit_1_C), ([0xCB, 0x4A], .bit_1_D), ([0xCB, 0x4B], .bit_1_E),
    ([0xCB, 0x4C], .bit_1_H), ([0xCB, 0x4D], .bit_1_L), ([0xCB, 0x4E], .bit_1_atHL),
    ([0xCB, 0x4F], .bit_1_A)] = true := by decide

theorem test_decode_cb1_1 : decodesTo [
    ([0xCB, 0x50], .bit_2_B), ([0xCB, 0x51], .bit_2_C), ([0xCB, 0x52], .bit_2_D),
    ([0xCB, 0x53], .bit_2_E), ([0xCB, 0x54], .bit_2_H), ([0xCB, 0x55], .bit_2_L),
    ([0xCB, 0x56], .bit_2_atHL), ([0xCB, 0x57], .bit_2_A), ([0xCB, 0x58], .bit_3_B),
    ([0xCB, 0x59], .bit_3_C), ([0xCB, 0x5A], .bit_3_D), ([0xCB, 0x5B], .bit_3_E),
    ([0xCB, 0x5C], .bit_3_H), ([0xCB, 0x5D], .bit_3_L), ([0xCB, 0x5E], .bit_3_atHL),
    ([0xCB, 0x5F], .bit_3_A)] = true := by decide

theorem test_decode_cb1_2 : decodesTo [
    ([0xCB, 0x60], .bit_4_B), ([0xCB, 0x61], .bit_4_C), ([0xCB, 0x62], .bit_4_D),
    ([0xCB, 0x63], .bit_4_E), ([0xCB, 0x64], .bit_4_H), ([0xCB, 0x65], .bit_4_L),
    ([0xCB, 0x66], .bit_4_atHL), ([0xCB, 0x67], .bit_4_A), ([0xCB, 0x68], .bit_5_B),
    ([0xCB, 0x69], .bit_5_C), ([0xCB, 0x6A], .bit_5_D), ([0xCB, 0x6B], .bit_5_E),
    ([0xCB, 0x6C], .bit_5_H), ([0xCB, 0x6D], .bit_5_L), ([0xCB, 0x6E], .bit_5_atHL),
    ([0xCB, 0x6F], .bit_5_A)] = true := by decide

theorem test_decode_cb1_3 : decodesTo [
    ([0xCB, 0x70], .bit_6_B), ([0xCB, 0x71], .bit_6_C), ([0xCB, 0x72], .bit_6_D),
    ([0xCB, 0x73], .bit_6_E), ([0xCB, 0x74], .bit_6_H), ([0xCB, 0x75], .bit_6_L),
    ([0xCB, 0x76], .bit_6_atHL), ([0xCB, 0x77], .bit_6_A), ([0xCB, 0x78], .bit_7_B),
    ([0xCB, 0x79], .bit_7_C), ([0xCB, 0x7A], .bit_7_D), ([0xCB, 0x7B], .bit_7_E),
    ([0xCB, 0x7C], .bit_7_H), ([0xCB, 0x7D], .bit_7_L), ([0xCB, 0x7E], .bit_7_atHL),
    ([0xCB, 0x7F], .bit_7_A)] = true := by decide

theorem test_decode_cb2_0 : decodesTo [
    ([0xCB, 0x80], .res_0_B), ([0xCB, 0x81], .res_0_C), ([0xCB, 0x82], .res_0_D),
    ([0xCB, 0x83], .res_0_E), ([0xCB, 0x84], .res_0_H), ([0xCB, 0x85], .res_0_L),
    ([0xCB, 0x86], .res_0_atHL), ([0xCB, 0x87], .res_0_A), ([0xCB, 0x88], .res_1_B),
    ([0xCB, 0x89], .res_1_C), ([0xCB, 0x8A], .res_1_D), ([0xCB, 0x8B], .res_1_E),
    ([0xCB, 0x8C], .res_1_H), ([0xCB, 0x8D], .res_1_L), ([0xCB, 0x8E], .res_1_atHL),
    ([0xCB, 0x8F], .res_1_A)] = true := by decide

theorem test_decode_cb2_1 : decodesTo [
    ([0xCB, 0x90], .res_2_B), ([0xCB, 0x91], .res_2_C), ([0xCB, 0x92], .res_2_D),
    ([0xCB, 0x93], .res_2_E), ([0xCB, 0x94], .res_2_H), ([0xCB, 0x95], .res_2_L),
    ([0xCB, 0x96], .res_2_atHL), ([0xCB, 0x97], .res_2_A), ([0xCB, 0x98], .res_3_B),
    ([0xCB, 0x99], .res_3_C), ([0xCB, 0x9A], .res_3_D), ([0xCB, 0x9B], .res_3_E),
    ([0xCB, 0x9C], .res_3_H), ([0xCB, 0x9D], .res_3_L), ([0xCB, 0x9E], .res_3_atHL),
    ([0xCB, 0x9F], .res_3_A)] = true := by decide

theorem test_decode_cb2_2 : decodesTo [
    ([0xCB, 0xA0], .res_4_B), ([0xCB, 0xA1], .res_4_C), ([0xCB, 0xA2], .res_4_D),
    ([0xCB, 0xA3], .res_4_E), ([0xCB, 0xA4], .res_4_H), ([0xCB, 0xA5], .res_4_L),
    ([0xCB, 0xA6], .res_4_atHL), ([0xCB, 0xA7], .res_4_A), ([0xCB, 0xA8], .res_5_B),
    ([0xCB, 0xA9], .res_5_C), ([0xCB, 0xAA], .res_5_D), ([0xCB, 0xAB], .res_5_E),
    ([0xCB, 0xAC], .res_5_H), ([0xCB, 0xAD], .res_5_L), ([0xCB, 0xAE], .res_5_atHL),
    ([0xCB, 0xAF], .res_5_A)] = true := by decide

theorem test_decode_cb2_3 : decodesTo [
    ([0xCB, 0xB0], .res_6_B), ([0xCB, 0xB1], .res_6_C), ([0xCB, 0xB2], .res_6_D),
    ([0xCB, 0xB3], .res_6_E), ([0xCB, 0xB4], .res_6_H), ([0xCB, 0xB5], .res_6_L),
    ([0xCB, 0xB6], .res_6_atHL), ([0xCB, 0xB7], .res_6_A), ([0xCB, 0xB8], .res_7_B),
    ([0xCB, 0xB9], .res_7_C), ([0xCB, 0xBA], .res_7_D), ([0xCB, 0xBB], .res_7_E),
    ([0xCB, 0xBC], .res_7_H), ([0xCB, 0xBD], .res_7_L), ([0xCB, 0xBE], .res_7_atHL),
    ([0xCB, 0xBF], .res_7_A)] = true := by decide

theorem test_decode_cb3_0 : decodesTo [
    ([0xCB, 0xC0], .set_0_B), ([0xCB, 0xC1], .set_0_C), ([0xCB, 0xC2], .set_0_D),
    ([0xCB, 0xC3], .set_0_E), ([0xCB, 0xC4], .set_0_H), ([0xCB, 0xC5], .set_0_L),
    ([0xCB, 0xC6], .set_0_atHL), ([0xCB, 0xC7], .set_0_A), ([0xCB, 0xC8], .set_1_B),
    ([0xCB, 0xC9], .set_1_C), ([0xCB, 0xCA], .set_1_D), ([0xCB, 0xCB], .set_1_E),
    ([0xCB, 0xCC], .set_1_H), ([0xCB, 0xCD], .set_1_L), ([0xCB, 0xCE], .set_1_atHL),
    ([0xCB, 0xCF], .set_1_A)] = true := by decide

theorem test_decode_cb3_1 : decodesTo [
    ([0xCB, 0xD0], .set_2_B), ([0xCB, 0xD1], .set_2_C), ([0xCB, 0xD2], .set_2_D),
    ([0xCB, 0xD3], .set_2_E), ([0xCB, 0xD4], .set_2_H), ([0xCB, 0xD5], .set_2_L),
    ([0xCB, 0xD6], .set_2_atHL), ([0xCB, 0xD7], .set_2_A), ([0xCB, 0xD8], .set_3_B),
    ([0xCB, 0xD9], .set_3_C), ([0xCB, 0xDA], .set_3_D), ([0xCB, 0xDB], .set_3_E),
    ([0xCB, 0xDC], .set_3_H), ([0xCB, 0xDD], .set_3_L), ([0xCB, 0xDE], .set_3_atHL),
    ([0xCB, 0xDF], .set_3_A)] = true := by decide

theorem test_decode_cb3_2 : decodesTo [
    ([0xCB, 0xE0], .set_4_B), ([0xCB, 0xE1], .set_4_C), ([0xCB, 0xE2], .set_4_D),
    ([0xCB, 0xE3], .set_4_E), ([0xCB, 0xE4], .set_4_H), ([0xCB, 0xE5], .set_4_L),
    ([0xCB, 0xE6], .set_4_atHL), ([0xCB, 0xE7], .set_4_A), ([0xCB, 0xE8], .set_5_B),
    ([0xCB, 0xE9], .set_5_C), ([0xCB, 0xEA], .set_5_D), ([0xCB, 0xEB], .set_5_E),
    ([0xCB, 0xEC], .set_5_H), ([0xCB, 0xED], .set_5_L), ([0xCB, 0xEE], .set_5_atHL),
    ([0xCB, 0xEF], .set_5_A)] = true := by decide

theorem test_decode_cb3_3 : decodesTo [
    ([0xCB, 0xF0], .set_6_B), ([0xCB, 0xF1], .set_6_C), ([0xCB, 0xF2], .set_6_D),
    ([0xCB, 0xF3], .set_6_E), ([0xCB, 0xF4], .set_6_H), ([0xCB, 0xF5], .set_6_L),
    ([0xCB, 0xF6], .set_6_atHL), ([0xCB, 0xF7], .set_6_A), ([0xCB, 0xF8], .set_7_B),
    ([0xCB, 0xF9], .set_7_C), ([0xCB, 0xFA], .set_7_D), ([0xCB, 0xFB], .set_7_E),
    ([0xCB, 0xFC], .set_7_H), ([0xCB, 0xFD], .set_7_L), ([0xCB, 0xFE], .set_7_atHL),
    ([0xCB, 0xFF], .set_7_A)] = true := by decide

/-! ### Well-formedness: the one check refuses the prefix alone, and the decoder reads the prefix with
its second byte as one instruction. -/

theorem test_wellFormed_refuses_prefix_alone : Instr.wellFormed .prefix_CB = false := by decide

theorem test_wellFormed_prefixed : Instr.wellFormed .set_1_E = true := by decide

theorem test_wellFormed_three_bytes : Instr.wellFormed (.jp_nn 0xFFFF) = true := by decide

theorem test_decode_nothing : decode [] = .error .noBytes := by rfl

theorem test_decode_truncated : decode [0xC3, 0x00] = .error (.truncated 0xC3) := by rfl

theorem test_tableWord_swap : decodeTableWord 16 0x30CB = some .swap_B := by decide

theorem test_tableWord_jp : decodeTableWord 24 0x0200C3 = some (.jp_nn 0x0200) := by decide

theorem test_tableWord_operand_bytes_zero : decodeTableWord 8 0xC3 = some (.jp_nn 0x0000) := by decide

theorem test_withFetchWord_places : (State.reset.withFetchWord 16 0x7F3E).read16 0x0100 = 0x7F3E := by
  decide

/-! ### 8-bit loads (40_load8.md) -/

theorem test_V1_LD_B_C :
    (after [0x41] base).map
      (fun t => t.regs.b) = some 0x13 := by decide

theorem test_V3_LD_B_atHL :
    (after [0x46] (base.write8 0x014D 0x5A)).map
      (fun t => t.regs.b) = some 0x5A := by decide

theorem test_V4_LD_A_atHL :
    (after [0x7E]
      (({ base with regs := { base.regs with h := 0xE0, l := 0x10 } } : State).write8 0xC010 0x99)).map
      (fun t => t.regs.a) = some 0x99 := by decide

theorem test_V6_LD_A_atHL :
    (after [0x7E] { base with regs := { base.regs with h := 0xFF, l := 0x44 } }).map
      (fun t => t.regs.a) = some 0x90 := by decide

theorem test_V7_LD_atHL_B :
    (after [0x70] { base with regs := { base.regs with h := 0xC0, l := 0x00, b := 0x12 } }).map
      (fun t => t.read8 0xC000) = some 0x12 := by decide

theorem test_V9_LD_atHL_0xAB :
    (after [0x36, 0xAB] { base with regs := { base.regs with h := 0x80, l := 0x00 } }).map
      (fun t => t.read8 0x8000) = some 0xAB := by decide

theorem test_V10_LD_B_0x7F :
    (after [0x06, 0x7F] base).map
      (fun t => t.regs.b) = some 0x7F := by decide

theorem test_V11_LD_atBC_A :
    (after [0x02] { base with regs := { base.regs with b := 0xC1, c := 0x00, a := 0x77 } }).map
      (fun t => t.read8 0xC100) = some 0x77 := by decide

theorem test_V12_LD_atDE_A :
    (after [0x12] { base with regs := { base.regs with d := 0xC1, e := 0x01, a := 0x78 } }).map
      (fun t => t.read8 0xC101) = some 0x78 := by decide

theorem test_V13_LD_atHLp_A :
    (after [0x22] { base with regs := { base.regs with h := 0xC0, l := 0xFF, a := 0x11 } }).map
      (fun t => (t.regs.h, t.regs.l, t.read8 0xC0FF)) = some (0xC1, 0x00, 0x11) := by decide

theorem test_V15_LD_atHLm_A :
    (after [0x32] { base with regs := { base.regs with h := 0xC0, l := 0x00, a := 0x22 } }).map
      (fun t => (t.regs.h, t.regs.l, t.read8 0xC000)) = some (0xBF, 0xFF, 0x22) := by decide

theorem test_V17_LD_A_atBC :
    (after [0x0A]
      (({ base with regs := { base.regs with b := 0xC0, c := 0x02 } } : State).write8 0xC002 0x33)).map
      (fun t => t.regs.a) = some 0x33 := by decide

theorem test_V18_LD_A_atDE :
    (after [0x1A]
      (({ base with regs := { base.regs with d := 0xC0, e := 0x03 } } : State).write8 0xC003 0x44)).map
      (fun t => t.regs.a) = some 0x44 := by decide

theorem test_V19_LD_A_atHLp :
    (after [0x2A]
      (({ base with regs := { base.regs with h := 0xC0, l := 0x04 } } : State).write8 0xC004 0x55)).map
      (fun t => (t.regs.a, t.regs.l)) = some (0x55, 0x05) := by decide

theorem test_V20_LD_A_atHLm :
    (after [0x3A]
      (({ base with regs := { base.regs with h := 0xC0, l := 0x05 } } : State).write8 0xC005 0x66)).map
      (fun t => (t.regs.a, t.regs.l)) = some (0x66, 0x04) := by decide

theorem test_V21_LDH_at0x80_A :
    (after [0xE0, 0x80] { base with regs := { base.regs with a := 0x5A } }).map
      (fun t => t.read8 0xFF80) = some 0x5A := by decide

theorem test_V22_LDH_A_at0x44 :
    (after [0xF0, 0x44] base).map
      (fun t => t.regs.a) = some 0x90 := by decide

theorem test_V25_LD_atC_A :
    (after [0xE2] { base with regs := { base.regs with c := 0x01, a := 0x41 } }).map
      (fun t => t.read8 0xFF01) = some 0x41 := by decide

theorem test_V26_LD_atC_A :
    (after [0xE2]
      (({ base with regs := { base.regs with c := 0x02, a := 0x81 } } : State).write8 0xFF01 0x41)).map
      (fun t => (t.read8 0xFF02, t.bus.serialOut)) = some (0x81, [0x41]) := by decide

theorem test_V28_LD_A_atC :
    (after [0xF2] (({ base with regs := { base.regs with c := 0x02 } } : State).write8 0xFF02 0x81)).map
      (fun t => t.regs.a) = some 0x81 := by decide

theorem test_V29_LD_at0xC000_A :
    (after [0xEA, 0x00, 0xC0] { base with regs := { base.regs with a := 0x55 } }).map
      (fun t => t.read8 0xC000) = some 0x55 := by decide

theorem test_V30_LD_A_at0xE000 :
    (after [0xFA, 0x00, 0xE0] (base.write8 0xC000 0x55)).map
      (fun t => t.regs.a) = some 0x55 := by decide

/-! ### 16-bit loads (41_load16.md) -/

theorem test_V32_LD_BC_0x1234 :
    (after [0x01, 0x34, 0x12] base).map
      (fun t => (t.regs.b, t.regs.c)) = some (0x12, 0x34) := by decide

theorem test_V35_LD_SP_0xD000 :
    (after [0x31, 0x00, 0xD0] base).map
      (fun t => t.sp) = some 0xD000 := by decide

theorem test_V36_LD_at0xC000_SP :
    (after [0x08, 0x00, 0xC0] base).map
      (fun t => (t.read8 0xC000, t.read8 0xC001)) = some (0xFE, 0xFF) := by decide

theorem test_V37_LD_at0xFFFF_SP :
    (after [0x08, 0xFF, 0xFF] { base with sp := 0x1234 }).map
      (fun t => t.read8 0x0000) = some 0x12 := by decide

theorem test_V38_LD_at0xFF01_SP :
    (after [0x08, 0x01, 0xFF] { base with sp := 0x8141 }).map
      (fun t => (t.read8 0xFF01, t.read8 0xFF02, t.bus.serialOut)) = some (0x41, 0x81, [0x41]) := by decide

theorem test_V39_LD_SP_HL :
    (after [0xF9] { base with regs := { base.regs with h := 0xDF, l := 0xF0 } }).map
      (fun t => t.sp) = some 0xDFF0 := by decide

theorem test_V40_LD_HL_SPp8 :
    (after [0xF8, 0x08] { base with sp := 0xFFF8 }).map
      (fun t => (t.f.toByte, t.regs.h, t.regs.l)) = some (0x30, 0x00, 0x00) := by decide

theorem test_V42_LD_HL_SPm1 :
    (after [0xF8, 0xFF] { base with sp := 0x0000 }).map
      (fun t => (t.f.toByte, t.regs.h, t.regs.l)) = some (0x00, 0xFF, 0xFF) := by decide

/-! ### 8-bit arithmetic and logic (42_alu8.md) -/

theorem test_V45_ADD_A_B :
    (after [0x80]
      { base with regs := { base.regs with a := 0x0F, b := 0x01 }, f := Flags.ofByte 0x00 }).map
      (fun t => (t.f.toByte, t.regs.a)) = some (0x20, 0x10) := by decide

theorem test_V46_ADD_A_A :
    (after [0x87] { base with regs := { base.regs with a := 0x80 }, f := Flags.ofByte 0x00 }).map
      (fun t => (t.f.toByte, t.regs.a)) = some (0x90, 0x00) := by decide

theorem test_V47_ADD_A_atHL :
    (after [0x86]
      (({ base with regs := { base.regs with a := 0x01, h := 0xC0, l := 0x00 }, f := Flags.ofByte 0x00 } : State).write8 0xC000 0xFF)).map
      (fun t => (t.f.toByte, t.regs.a)) = some (0xB0, 0x00) := by decide

theorem test_V50_ADC_A_0xFF :
    (after [0xCE, 0xFF] { base with regs := { base.regs with a := 0xFF }, f := Flags.ofByte 0x10 }).map
      (fun t => t.f.toByte) = some 0x30 := by decide

theorem test_V52_SUB_B :
    (after [0x90]
      { base with regs := { base.regs with a := 0x00, b := 0x01 }, f := Flags.ofByte 0x00 }).map
      (fun t => (t.f.toByte, t.regs.a)) = some (0x70, 0xFF) := by decide

theorem test_V55_SBC_A_B :
    (after [0x98]
      { base with regs := { base.regs with a := 0x00, b := 0x00 }, f := Flags.ofByte 0x10 }).map
      (fun t => (t.f.toByte, t.regs.a)) = some (0x70, 0xFF) := by decide

theorem test_V56_SBC_A_0x0F :
    (after [0xDE, 0x0F] { base with regs := { base.regs with a := 0x10 }, f := Flags.ofByte 0x10 }).map
      (fun t => (t.f.toByte, t.regs.a)) = some (0xE0, 0x00) := by decide

theorem test_V58_AND_B :
    (after [0xA0]
      { base with regs := { base.regs with a := 0xF0, b := 0x0F }, f := Flags.ofByte 0x10 }).map
      (fun t => (t.f.toByte, t.regs.a)) = some (0xA0, 0x00) := by decide

theorem test_V61_XOR_B :
    (after [0xA8]
      { base with regs := { base.regs with a := 0xFF, b := 0x0F }, f := Flags.ofByte 0xF0 }).map
      (fun t => (t.f.toByte, t.regs.a)) = some (0x00, 0xF0) := by decide

theorem test_V64_OR_B :
    (after [0xB0]
      { base with regs := { base.regs with a := 0x00, b := 0x00 }, f := Flags.ofByte 0x70 }).map
      (fun t => t.f.toByte) = some 0x80 := by decide

theorem test_V67_CP_B :
    (after [0xB8]
      { base with regs := { base.regs with a := 0x3C, b := 0x3C }, f := Flags.ofByte 0x00 }).map
      (fun t => t.f.toByte) = some 0xC0 := by decide

theorem test_V68_CP_B :
    (after [0xB8]
      { base with regs := { base.regs with a := 0x3C, b := 0x40 }, f := Flags.ofByte 0x00 }).map
      (fun t => t.f.toByte) = some 0x50 := by decide

theorem test_V70_CP_0x90 :
    (after [0xFE, 0x90] { base with regs := { base.regs with a := 0x90 }, f := Flags.ofByte 0x00 }).map
      (fun t => t.f.toByte) = some 0xC0 := by decide

theorem test_V72_INC_A :
    (after [0x3C] { base with regs := { base.regs with a := 0xFF }, f := Flags.ofByte 0x00 }).map
      (fun t => (t.f.toByte, t.regs.a)) = some (0xA0, 0x00) := by decide

theorem test_V74_INC_B :
    (after [0x04] { base with regs := { base.regs with b := 0x7F }, f := Flags.ofByte 0xF0 }).map
      (fun t => (t.f.toByte, t.regs.b)) = some (0x30, 0x80) := by decide

theorem test_V75_INC_atHL :
    (after [0x34]
      (({ base with regs := { base.regs with h := 0xC0, l := 0x00 }, f := Flags.ofByte 0x00 } : State).write8 0xC000 0xFF)).map
      (fun t => (t.f.toByte, t.read8 0xC000)) = some (0xA0, 0x00) := by decide

theorem test_V77_DEC_A :
    (after [0x3D] { base with regs := { base.regs with a := 0x01 }, f := Flags.ofByte 0x00 }).map
      (fun t => (t.f.toByte, t.regs.a)) = some (0xC0, 0x00) := by decide

theorem test_V79_DEC_B :
    (after [0x05] { base with regs := { base.regs with b := 0x10 }, f := Flags.ofByte 0x00 }).map
      (fun t => (t.f.toByte, t.regs.b)) = some (0x60, 0x0F) := by decide

theorem test_V80_DEC_atHL :
    (after [0x35]
      (({ base with regs := { base.regs with h := 0xC0, l := 0x00 }, f := Flags.ofByte 0x10 } : State).write8 0xC000 0x01)).map
      (fun t => (t.f.toByte, t.read8 0xC000)) = some (0xD0, 0x00) := by decide

theorem test_V83_DAA :
    (after [0x27] { base with regs := { base.regs with a := 0x9A }, f := Flags.ofByte 0x00 }).map
      (fun t => (t.f.toByte, t.regs.a)) = some (0x90, 0x00) := by decide

theorem test_V85_DAA :
    (after [0x27] { base with regs := { base.regs with a := 0x00 }, f := Flags.ofByte 0x30 }).map
      (fun t => (t.f.toByte, t.regs.a)) = some (0x10, 0x66) := by decide

theorem test_V86_DAA :
    (after [0x27] { base with regs := { base.regs with a := 0x2D }, f := Flags.ofByte 0x60 }).map
      (fun t => (t.f.toByte, t.regs.a)) = some (0x40, 0x27) := by decide

theorem test_V87_DAA :
    (after [0x27] { base with regs := { base.regs with a := 0xFF }, f := Flags.ofByte 0x70 }).map
      (fun t => (t.f.toByte, t.regs.a)) = some (0x50, 0x99) := by decide

theorem test_V90_CPL :
    (after [0x2F] { base with regs := { base.regs with a := 0x35 }, f := Flags.ofByte 0x00 }).map
      (fun t => (t.f.toByte, t.regs.a)) = some (0x60, 0xCA) := by decide

theorem test_V92_SCF :
    (after [0x37] { base with f := Flags.ofByte 0xE0 }).map
      (fun t => t.f.toByte) = some 0x90 := by decide

theorem test_V94_CCF :
    (after [0x3F] { base with f := Flags.ofByte 0xF0 }).map
      (fun t => t.f.toByte) = some 0x80 := by decide

/-! ### 16-bit arithmetic (43_alu16.md) -/

theorem test_V96_ADD_HL_BC :
    (after [0x09]
      { base with regs := { base.regs with h := 0x0F, l := 0xFF, b := 0x00, c := 0x01 }, f := Flags.ofByte 0x80 }).map
      (fun t => (t.f.toByte, t.regs.h, t.regs.l)) = some (0xA0, 0x10, 0x00) := by decide

theorem test_V98_ADD_HL_SP :
    (after [0x39]
      { base with regs := { base.regs with h := 0xFF, l := 0xFF }, f := Flags.ofByte 0x00, sp := 0x0001 }).map
      (fun t => (t.f.toByte, t.regs.h, t.regs.l)) = some (0x30, 0x00, 0x00) := by decide

theorem test_V99_ADD_HL_DE :
    (after [0x19]
      { base with regs := { base.regs with h := 0x12, l := 0x34, d := 0x11, e := 0x11 }, f := Flags.ofByte 0xF0 }).map
      (fun t => (t.f.toByte, t.regs.h, t.regs.l)) = some (0x80, 0x23, 0x45) := by decide

theorem test_V100_ADD_SP_m2 :
    (after [0xE8, 0xFE] base).map
      (fun t => (t.f.toByte, t.sp)) = some (0x30, 0xFFFC) := by decide

theorem test_V103_ADD_SP_m1 :
    (after [0xE8, 0xFF] { base with sp := 0x0100 }).map
      (fun t => (t.f.toByte, t.sp)) = some (0x00, 0x00FF) := by decide

theorem test_V105_INC_BC :
    (after [0x03] { base with regs := { base.regs with b := 0x12, c := 0xFF } }).map
      (fun t => (t.regs.b, t.regs.c)) = some (0x13, 0x00) := by decide

theorem test_V107_INC_SP :
    (after [0x33] { base with sp := 0xFFFF }).map
      (fun t => t.sp) = some 0x0000 := by decide

theorem test_V108_DEC_BC :
    (after [0x0B] { base with regs := { base.regs with b := 0x01, c := 0x00 } }).map
      (fun t => (t.regs.b, t.regs.c)) = some (0x00, 0xFF) := by decide

theorem test_V109_DEC_DE :
    (after [0x1B] { base with regs := { base.regs with d := 0x00, e := 0x00 } }).map
      (fun t => (t.regs.d, t.regs.e)) = some (0xFF, 0xFF) := by decide

/-! ### Rotates, shifts and bit operations (44_bitops.md) -/

theorem test_V112_RLCA :
    (after [0x07] { base with regs := { base.regs with a := 0x85 }, f := Flags.ofByte 0xF0 }).map
      (fun t => (t.f.toByte, t.regs.a)) = some (0x10, 0x0B) := by decide

theorem test_V114_RRCA :
    (after [0x0F] { base with regs := { base.regs with a := 0x01 }, f := Flags.ofByte 0x00 }).map
      (fun t => (t.f.toByte, t.regs.a)) = some (0x10, 0x80) := by decide

theorem test_V115_RLA :
    (after [0x17] { base with regs := { base.regs with a := 0x95 }, f := Flags.ofByte 0x10 }).map
      (fun t => t.regs.a) = some 0x2B := by decide

theorem test_V117_RRA :
    (after [0x1F] { base with regs := { base.regs with a := 0x81 }, f := Flags.ofByte 0x00 }).map
      (fun t => (t.f.toByte, t.regs.a)) = some (0x10, 0x40) := by decide

theorem test_V120_RLC_B :
    (after [0xCB, 0x00] { base with regs := { base.regs with b := 0x85 }, f := Flags.ofByte 0x00 }).map
      (fun t => (t.f.toByte, t.regs.b)) = some (0x10, 0x0B) := by decide

theorem test_V121_RRC_C :
    (after [0xCB, 0x09] { base with regs := { base.regs with c := 0x01 }, f := Flags.ofByte 0x00 }).map
      (fun t => (t.f.toByte, t.regs.c)) = some (0x10, 0x80) := by decide

theorem test_V122_RL_D :
    (after [0xCB, 0x12] { base with regs := { base.regs with d := 0x80 }, f := Flags.ofByte 0x00 }).map
      (fun t => (t.f.toByte, t.regs.d)) = some (0x90, 0x00) := by decide

theorem test_V125_RR_E :
    (after [0xCB, 0x1B] { base with regs := { base.regs with e := 0x00 }, f := Flags.ofByte 0x10 }).map
      (fun t => (t.f.toByte, t.regs.e)) = some (0x00, 0x80) := by decide

theorem test_V127_SLA_L :
    (after [0xCB, 0x25] { base with regs := { base.regs with l := 0xFF }, f := Flags.ofByte 0x00 }).map
      (fun t => (t.f.toByte, t.regs.l)) = some (0x10, 0xFE) := by decide

theorem test_V128_SRA_A :
    (after [0xCB, 0x2F] { base with regs := { base.regs with a := 0x81 }, f := Flags.ofByte 0x00 }).map
      (fun t => (t.f.toByte, t.regs.a)) = some (0x10, 0xC0) := by decide

theorem test_V129_SRA_A :
    (after [0xCB, 0x2F] { base with regs := { base.regs with a := 0x01 }, f := Flags.ofByte 0x00 }).map
      (fun t => (t.f.toByte, t.regs.a)) = some (0x90, 0x00) := by decide

theorem test_V131_SWAP_A :
    (after [0xCB, 0x37] { base with regs := { base.regs with a := 0xF0 }, f := Flags.ofByte 0xF0 }).map
      (fun t => (t.f.toByte, t.regs.a)) = some (0x00, 0x0F) := by decide

theorem test_V133_SRL_A :
    (after [0xCB, 0x3F] { base with regs := { base.regs with a := 0x01 }, f := Flags.ofByte 0x00 }).map
      (fun t => (t.f.toByte, t.regs.a)) = some (0x90, 0x00) := by decide

theorem test_V135_RLC_atHL :
    (after [0xCB, 0x06]
      (({ base with regs := { base.regs with h := 0xC0, l := 0x00 }, f := Flags.ofByte 0x00 } : State).write8 0xC000 0x85)).map
      (fun t => (t.f.toByte, t.read8 0xC000)) = some (0x10, 0x0B) := by decide

theorem test_V136_SWAP_atHL :
    (after [0xCB, 0x36]
      (({ base with regs := { base.regs with h := 0xC0, l := 0x00 }, f := Flags.ofByte 0x10 } : State).write8 0xC000 0x12)).map
      (fun t => (t.f.toByte, t.read8 0xC000)) = some (0x00, 0x21) := by decide

theorem test_V138_BIT_7_B :
    (after [0xCB, 0x78] { base with regs := { base.regs with b := 0x00 }, f := Flags.ofByte 0x00 }).map
      (fun t => t.f.toByte) = some 0xA0 := by decide

theorem test_V140_BIT_0_A :
    (after [0xCB, 0x47] { base with regs := { base.regs with a := 0xFE }, f := Flags.ofByte 0x10 }).map
      (fun t => t.f.toByte) = some 0xB0 := by decide

theorem test_V142_BIT_0_atHL :
    (after [0xCB, 0x46]
      (({ base with regs := { base.regs with h := 0xC0, l := 0x00 }, f := Flags.ofByte 0x10 } : State).write8 0xC000 0x01)).map
      (fun t => t.f.toByte) = some 0x30 := by decide

theorem test_V145_RES_0_A :
    (after [0xCB, 0x87] { base with regs := { base.regs with a := 0xFF } }).map
      (fun t => t.regs.a) = some 0xFE := by decide

theorem test_V147_RES_0_atHL :
    (after [0xCB, 0x86]
      (({ base with regs := { base.regs with h := 0xC0, l := 0x00 } } : State).write8 0xC000 0xFF)).map
      (fun t => t.read8 0xC000) = some 0xFE := by decide

theorem test_V148_RES_0_atHL :
    (after [0xCB, 0x86]
      { base with regs := { base.regs with h := 0xFF, l := 0x50 }, bus := { base.bus with bootEn := true } }).map
      (fun t => t.bus.bootEn) = some false := by decide

theorem test_V149_SET_0_A :
    (after [0xCB, 0xC7] { base with regs := { base.regs with a := 0x00 } }).map
      (fun t => t.regs.a) = some 0x01 := by decide

theorem test_V151_SET_1_E :
    (after [0xCB, 0xCB] { base with regs := { base.regs with e := 0x00 } }).map
      (fun t => t.regs.e) = some 0x02 := by decide

theorem test_V152_SET_7_atHL :
    (after [0xCB, 0xFE] { base with regs := { base.regs with h := 0xC0, l := 0x00 } }).map
      (fun t => t.read8 0xC000) = some 0x80 := by decide

/-! ### Control transfer (45_control.md) -/

theorem test_V155_JP_NZ_0x0200 :
    (after [0xC2, 0x00, 0x02] { base with f := Flags.ofByte 0x80 }).map
      (fun t => t.pc) = some 0x0103 := by decide

theorem test_V156_JP_Z_0x0200 :
    (after [0xCA, 0x00, 0x02] { base with f := Flags.ofByte 0x80 }).map
      (fun t => t.pc) = some 0x0200 := by decide

theorem test_V157_JP_NC_0x0200 :
    (after [0xD2, 0x00, 0x02] { base with f := Flags.ofByte 0x80 }).map
      (fun t => t.pc) = some 0x0200 := by decide

theorem test_V160_JP_C_0x0200 :
    (after [0xDA, 0x00, 0x02] { base with f := Flags.ofByte 0x10 }).map
      (fun t => t.pc) = some 0x0200 := by decide

theorem test_V161_JP_HL :
    (after [0xE9] base).map
      (fun t => t.pc) = some 0x014D := by decide

theorem test_V164_JR_m2 :
    (after [0x18, 0xFE] base).map
      (fun t => t.pc) = some 0x0100 := by decide

theorem test_V165_JR_m128 :
    (after [0x18, 0x80] base).map
      (fun t => t.pc) = some 0x0082 := by decide

theorem test_V168_JR_m3 :
    (after [0x18, 0xFD] { base with pc := 0x0000 }).map
      (fun t => t.pc) = some 0xFFFF := by decide

theorem test_V170_JR_NZ_p5 :
    (after [0x20, 0x05] { base with f := Flags.ofByte 0x10 }).map
      (fun t => t.pc) = some 0x0107 := by decide

theorem test_V171_JR_Z_p5 :
    (after [0x28, 0x05] { base with f := Flags.ofByte 0x10 }).map
      (fun t => t.pc) = some 0x0102 := by decide

theorem test_V173_JR_C_p5 :
    (after [0x38, 0x05] { base with f := Flags.ofByte 0x10 }).map
      (fun t => t.pc) = some 0x0107 := by decide

theorem test_V176_CALL_0x0150 :
    (after [0xCD, 0x50, 0x01] base).map
      (fun t => (t.sp, t.read8 0xFFFC, t.read8 0xFFFD, t.pc)) = some (0xFFFC, 0x03, 0x01, 0x0150) := by decide

theorem test_V178_CALL_0x1234 :
    (after [0xCD, 0x34, 0x12] { base with sp := 0x0000 }).map
      (fun t => (t.sp, t.read8 0xFFFE, t.pc)) = some (0xFFFE, 0x03, 0x1234) := by decide

theorem test_V179_CALL_NZ_0x0150 :
    (after [0xC4, 0x50, 0x01] { base with f := Flags.ofByte 0x80 }).map
      (fun t => t.pc) = some 0x0103 := by decide

theorem test_V180_CALL_Z_0x0150 :
    (after [0xCC, 0x50, 0x01] { base with f := Flags.ofByte 0x80 }).map
      (fun t => (t.sp, t.read8 0xFFFC, t.read8 0xFFFD, t.pc)) = some (0xFFFC, 0x03, 0x01, 0x0150) := by decide

theorem test_V183_RET :
    (after [0xC9] ((({ base with sp := 0xFFFC } : State).write8 0xFFFC 0x03).write8 0xFFFD 0x01)).map
      (fun t => (t.sp, t.pc)) = some (0xFFFE, 0x0103) := by decide

theorem test_V184_RET :
    (after [0xC9] (({ base with sp := 0xFFFE } : State).write8 0xFFFE 0x34)).map
      (fun t => (t.sp, t.pc)) = some (0x0000, 0x0034) := by decide

theorem test_V185_RET_NZ :
    (after [0xC0]
      ((({ base with f := Flags.ofByte 0x80, sp := 0xFFFC } : State).write8 0xFFFC 0x03).write8 0xFFFD 0x01)).map
      (fun t => t.pc) = some 0x0101 := by decide

theorem test_V186_RET_Z :
    (after [0xC8]
      ((({ base with f := Flags.ofByte 0x80, sp := 0xFFFC } : State).write8 0xFFFC 0x03).write8 0xFFFD 0x01)).map
      (fun t => (t.sp, t.pc)) = some (0xFFFE, 0x0103) := by decide

theorem test_V189_RETI :
    (after [0xD9] ((({ base with sp := 0xFFFC } : State).write8 0xFFFC 0x03).write8 0xFFFD 0x01)).map
      (fun t => (t.sp, t.pc)) = some (0xFFFE, 0x0103) := by decide

theorem test_V195_RST_0x28 :
    (after [0xEF] base).map
      (fun t => (t.sp, t.read8 0xFFFC, t.read8 0xFFFD, t.pc)) = some (0xFFFC, 0x01, 0x01, 0x0028) := by decide

theorem test_V197_RST_0x38 :
    (after [0xFF] base).map
      (fun t => (t.sp, t.read8 0xFFFC, t.read8 0xFFFD, t.pc)) = some (0xFFFC, 0x01, 0x01, 0x0038) := by decide

/-! ### Stack (46_stack.md) -/

theorem test_V198_PUSH_BC :
    (after [0xC5] base).map
      (fun t => (t.sp, t.read8 0xFFFC, t.read8 0xFFFD)) = some (0xFFFC, 0x13, 0x00) := by decide

theorem test_V201_PUSH_AF :
    (after [0xF5] base).map
      (fun t => (t.sp, t.read8 0xFFFC, t.read8 0xFFFD)) = some (0xFFFC, 0xB0, 0x01) := by decide

theorem test_V203_PUSH_BC :
    (after [0xC5] { base with regs := { base.regs with b := 0xAB, c := 0xCD }, sp := 0x0001 }).map
      (fun t => (t.sp, t.read8 0x0000)) = some (0xFFFF, 0xAB) := by decide

theorem test_V206_POP_DE :
    (after [0xD1] ((({ base with sp := 0xC000 } : State).write8 0xC000 0x34).write8 0xC001 0x12)).map
      (fun t => (t.sp, t.regs.d, t.regs.e)) = some (0xC002, 0x12, 0x34) := by decide

theorem test_V208_POP_AF :
    (after [0xF1] ((({ base with sp := 0xC000 } : State).write8 0xC000 0xFF).write8 0xC001 0x12)).map
      (fun t => (t.f.toByte, t.sp, t.regs.a)) = some (0xF0, 0xC002, 0x12) := by decide

theorem test_V212_POP_BC :
    (after [0xC1] (({ base with sp := 0xFF43 } : State).write8 0xFF43 0x21)).map
      (fun t => (t.sp, t.regs.b, t.regs.c)) = some (0xFF45, 0x90, 0x21) := by decide

/-! ### NOP, HALT, DI, EI, STOP and the unused bytes (47_misc.md) -/

theorem test_V213_NOP :
    (after [0x00] base).map
      (fun t => t.pc) = some 0x0101 := by decide

theorem test_V214_HALT :
    (after [0x76] base).map
      (fun t => t.pc) = some 0x0101 := by decide

theorem test_V215_DI :
    (after [0xF3] base).map
      (fun t => t.pc) = some 0x0101 := by decide

theorem test_V216_EI :
    (after [0xFB] base).map
      (fun t => t.pc) = some 0x0101 := by decide

theorem test_V217_STOP :
    (after [0x10, 0x00] base).map
      (fun t => (t.fault, t.pc)) = some (some (.stop 0x0100), 0x0100) := by decide

theorem test_V218_ILLEGAL_D3 :
    (after [0xD3] base).map
      (fun t => (t.fault, t.pc)) = some (some (.illegalOpcode 0xD3 0x0100), 0x0100) := by decide

theorem test_V228_ILLEGAL_FD :
    (after [0xFD] base).map
      (fun t => (t.fault, t.pc)) = some (some (.illegalOpcode 0xFD 0x0100), 0x0100) := by decide

theorem test_V231_NOP :
    (after [] { base with pc := 0xFFFF }).map
      (fun t => t.pc) = some 0x0000 := by decide

/-! ### The bus on its own: the address table and the sequences M1 to M21 of 95_test_vectors.md. The table's
rows are also the witnesses of `Obligations.MemoryMap`, both ends of each of its ranges. -/

theorem test_resolve_table_0 : ([
    ((true, 0x0000), .boot 0), ((true, 0x00FF), .boot 255), ((true, 0x0100), .cart 256),
    ((false, 0x0000), .cart 0), ((false, 0x00FF), .cart 255), ((false, 0x7FFF), .cart 32767),
    ((false, 0x8000), .vram 0), ((false, 0x9FFF), .vram 8191), ((false, 0xA000), .unmapped),
    ((false, 0xBFFF), .unmapped), ((false, 0xC000), .wram 0), ((false, 0xDFFF), .wram 8191),
    ((false, 0xE000), .wram 0), ((false, 0xE123), .wram 291), ((false, 0xFDFF), .wram 7679),
    ((false, 0xFE00), .unmapped)] :
    List ((Bool × Word) × Target)).all (fun r => resolve r.1.1 r.1.2 == r.2) = true := by decide

theorem test_resolve_table_1 : ([
    ((false, 0xFEFF), .unmapped), ((false, 0xFF00), .io 0), ((false, 0xFF01), .serialData),
    ((false, 0xFF02), .serialCtrl), ((false, 0xFF03), .io 3), ((false, 0xFF43), .io 67),
    ((false, 0xFF44), .lcdLine), ((false, 0xFF45), .io 69), ((false, 0xFF46), .io 70),
    ((false, 0xFF4F), .io 79), ((false, 0xFF50), .bootLatch), ((false, 0xFF51), .io 81),
    ((false, 0xFF7F), .io 127), ((false, 0xFF80), .hram 0), ((false, 0xFFFE), .hram 126),
    ((false, 0xFFFF), .unmapped)] :
    List ((Bool × Word) × Target)).all (fun r => resolve r.1.1 r.1.2 == r.2) = true := by decide

/-- The start of the bus sequences, with `boot[1]` of M2. -/
def busStart : Bus :=
  { State.reset.bus with boot := [(0, 0x31), (1, 0xFE)], cart := [(0, 0x77)], bootEn := true }

theorem test_M1_M2 : (busStart.read8 0x0000, busStart.read16 0x0000) = (0x31, 0xFE31) := by decide

theorem test_M3_M4 : ((busStart.write8 0xFF50 0x01).bootEn, (busStart.write8 0xFF50 0x01).read8 0x0000) =
    (false, 0x77) := by decide

theorem test_M6 : (((busStart.write8 0xFF50 0x01).write8 0xFF50 0x00).write8 0xFF50 0xFF).bootEn = false := by
  decide

theorem test_M7_M8 : ((busStart.write8 0xC123 0xAB).read8 0xE123, (busStart.write8 0xFDFF 0xCD).read8 0xDDFF) =
    (0xAB, 0xCD) := by decide

theorem test_M9 : ((busStart.write16 0xDFFF 0xBEEF).read8 0xDFFF, (busStart.write16 0xDFFF 0xBEEF).read8 0xC000) =
    (0xEF, 0xBE) := by decide

theorem test_M10_M11 : (busStart.write16 0xFFFE 0x1234).read16 0xFFFE &&& 0x00FF = 0x0034 := by decide

theorem test_M12 : (({ busStart with bootEn := false } : Bus).write16 0xFFFF 0xA1B2).read8 0x0000 = 0xA1 := by
  decide

theorem test_M13_M14 :
    (((busStart.write8 0xFF01 0x41).write8 0xFF02 0x81).write8 0xFF02 0x81).serialOut = [0x41, 0x41] := by
  decide

theorem test_M15 : ((busStart.write8 0xFF01 0x41).write8 0xFF02 0x01).serialOut = [] := by decide

theorem test_M17 : (busStart.write16 0xFF01 0x8142).serialOut = [0x42] := by decide

theorem test_M18_M19 : ((busStart.write8 0xFF44 0x12).read8 0xFF44, busStart.read16 0xFF43) = (0x90, 0x9000) := by
  decide

theorem test_M20_M21 : ((busStart.write8 0xA000 0x55).read8 0xA000, (busStart.write8 0x0150 0x99).read8 0x0150) =
    (0x00, 0x99) := by decide

/-! ### Witnesses -/

theorem witness_ResetState_skipBoot : Config.resetParams.bootMode = .skipBoot := by decide

theorem witness_ResetState_runBoot :
    ({ Config.resetParams with bootMode := .runBoot } : ResetParams).bootMode = .runBoot := by decide

theorem witness_ModelReset_wf : Config.resetParams.wf = true ∧ ((0xFFFF : Word) ≠ 0xFF44) := by decide

theorem witness_DecodeOfEncode : Instr.wellFormed (.ld_A_n 0xFF) = true := by decide

theorem witness_EncodeOfDecode : decode [0xC3, 0x00, 0x02, 0x99] = .ok (.jp_nn 0x0200, [0x99]) := by rfl

theorem witness_LengthFromFirstByte :
    condHolds (Flags.ofByte 0x80) .nz = false ∧ condHolds (Flags.ofByte 0x00) .z = false ∧
    condHolds (Flags.ofByte 0x10) .nc = false ∧ condHolds (Flags.ofByte 0x00) .c = false := by decide

theorem witness_StepRunsDecoded :
    (ready [0x3E, 0x7F] base).fault = none ∧
    (decode [(ready [0x3E, 0x7F] base).read8 (ready [0x3E, 0x7F] base).pc,
        (ready [0x3E, 0x7F] base).read8 ((ready [0x3E, 0x7F] base).pc + 1),
        (ready [0x3E, 0x7F] base).read8 ((ready [0x3E, 0x7F] base).pc + 2)]).toOption =
      some (.ld_A_n 0x7F, [0x00]) ∧
    Instr.wellFormed (.ld_A_n 0x7F) = true := by decide

/-- The three bytes of `LD BC,0xAB00` at 0xFFFE: the first in high RAM, the second an Unmapped zero, the
third at address 0 after the wrap. -/
def wrapped : State :=
  { base with pc := 0xFFFE, bus := { base.bus with hram := [(126, 0x01)], cart := [(0, 0xAB)] } }

theorem witness_StepRunsEncoded :
    wrapped.fault = none ∧ Instr.wellFormed (.ld_BC_nn 0xAB00) = true ∧
    ∀ (k : Nat) (h : k < (encode (.ld_BC_nn 0xAB00)).length),
      wrapped.read8 (wrapped.pc + BitVec.ofNat 16 k) = (encode (.ld_BC_nn 0xAB00))[k] := by decide

theorem witness_PrefixOneInstruction :
    (ready [0xCB, 0xCB] base).fault = none ∧
    (ready [0xCB, 0xCB] base).read8 (ready [0xCB, 0xCB] base).pc = 0xCB := by decide

theorem witness_StepAlwaysAnswers : base.fault = none := by decide

theorem witness_FaultPreciseTerminal_raised :
    (ready [0x10] base).fault = none ∧ (ready [0x10] base).read8 (ready [0x10] base).pc ∈ faultBytes ∧
    (ready [0xFD] base).fault = none ∧ (ready [0xFD] base).read8 (ready [0xFD] base).pc ∈ faultBytes := by
  decide

/-- A state whose latch holds STOP at 0x0100. -/
def latched : State := { base with fault := some (.stop 0x0100) }

theorem witness_FaultPreciseTerminal_latched :
    latched.fault = some (.stop 0x0100) ∧ latched.fault ≠ none ∧ exec .nop latched = .next latched :=
  ⟨by decide, by decide, rfl⟩

theorem witness_IllegalOpcode :
    (ready [0xD3] base).fault = none ∧ (ready [0xD3] base).read8 (ready [0xD3] base).pc ∈ unusedBytes := by
  decide

theorem witness_StopFault :
    (ready [0x10] base).fault = none ∧ (ready [0x10] base).read8 (ready [0x10] base).pc = 0x10 := by
  decide

/-- Cartridge bytes `18 FE` at 0x0100: a run that goes on for ever. -/
def looping : State := ready [0x18, 0xFE] base

theorem looping_step : step looping = .next looping := next_of (by decide)

theorem looping_reaches {t : State} (h : Reaches looping t) : t = looping := by
  generalize hs : looping = s at h
  induction h with
  | refl => rfl
  | step s t u hst _ ih =>
    rw [← hs, looping_step] at hst
    have h2 := Host.Outcome.next.inj hst
    exact (ih h2).trans (h2.symm.trans hs)

theorem witness_SafeRunIffNoFaultByte :
    looping.fault = none ∧ (∀ t, Reaches looping t → t.fault = none) ∧
    (∀ t, Reaches looping t → t.fault = none → t.read8 t.pc ∉ faultBytes) :=
  ⟨by decide, fun t h => by rw [looping_reaches h]; decide,
    fun t h _ => by rw [looping_reaches h]; decide⟩

theorem witness_FlagTable :
    exec .add_A_A base = .next { base with regs := { base.regs with a := 0x02 }, f := Flags.ofByte 0x00 } ∧
    exec .pop_BC base = .next { base with regs := { base.regs with b := 0x00, c := 0x00 }, sp := 0x0000 } :=
  ⟨next_of (by decide), next_of (by decide)⟩

theorem witness_WhoWritesWhat :
    exec .inc_A base = .next { base with regs := { base.regs with a := 0x02 }, f := Flags.ofByte 0x10 } ∧
    Form.writesPC (Instr.form .inc_A) = false ∧ Form.writesSP (Instr.form .inc_A) = false ∧
    Instr.wellFormed .inc_A = true ∧ Form.stores (Instr.form .inc_A) = false :=
  ⟨next_of (by decide), by decide⟩

theorem witness_UnmappedAndLcd :
    ([0xA000, 0xBFFF, 0xFE00, 0xFEFF, 0xFFFF] : List Word).all (fun a => decide
      (((0xA000 ≤ a.toNat ∧ a.toNat ≤ 0xBFFF) ∨ (0xFE00 ≤ a.toNat ∧ a.toNat ≤ 0xFEFF) ∨ a = 0xFFFF) ∧
      busStart.read8 a = 0x00)) = true := by decide

theorem witness_WorkRamMirror :
    ([0xC000, 0xDDFF] : List Word).all (fun a => decide (0xC000 ≤ a.toNat ∧ a.toNat ≤ 0xDDFF ∧
      (busStart.write8 (a + 0x2000) 0x5A).read8 a = 0x5A)) = true := by decide

theorem witness_WorkRamMirror_upper :
    ([0xDE00, 0xDFFF] : List Word).all (fun a => decide (0xC000 ≤ a.toNat ∧ a.toNat ≤ 0xDFFF ∧
      (busStart.write8 a 0x5A).read8 a = 0x5A ∧ (busStart.write8 a 0x5A).read8 (a + 0x2000) = 0x00)) = true := by
  decide

theorem witness_PlainStorage :
    ([0x0000, 0x00FF, 0x0100, 0x7FFF, 0x8000, 0x9FFF, 0xFF80, 0xFFFE, 0xFF00, 0xFF01, 0xFF03, 0xFF43,
        0xFF45, 0xFF4F, 0xFF51, 0xFF7F] : List Word).all (fun a => decide
      ((a.toNat ≤ 0x9FFF ∨ (0xFF80 ≤ a.toNat ∧ a.toNat ≤ 0xFFFE) ∨
        (0xFF00 ≤ a.toNat ∧ a.toNat ≤ 0xFF7F ∧ a ≠ 0xFF02 ∧ a ≠ 0xFF44 ∧ a ≠ 0xFF50)) ∧
      (busStart.write8 a 0x5A).read8 a = 0x5A)) = true := by decide

theorem witness_SerialPrint : ((0xFF01 : Word) ≠ 0xFF02) := by decide

theorem witness_BootOverlay :
    busStart.bootEn = true ∧ ((0x0000 : Word).toNat ≤ 0x00FF) ∧ ((0x00FF : Word).toNat ≤ 0x00FF) ∧
    base.bus.bootEn = false := by decide

theorem witness_TwoByteAccess : (0x8142 : Word).toNat / 256 = 0x81 := by decide

theorem witness_MostRecentWrite :
    (∀ w ∈ ([(0xC000, 0x11), (0xE000, 0x5A), (0xFF44, 0x22)] : List (Word × Byte)), w.1 ≠ 0xFF50) ∧
    (([(0xC000, 0x11), (0xE000, 0x5A), (0xFF44, 0x22)] : List (Word × Byte)).foldl
      (fun m w => m.write8 w.1 w.2) busStart).read8 0xC000 = 0x5A :=
  ⟨by simp, by decide⟩

theorem witness_BootLatchOneWay :
    step base = .next { base with pc := 0x0101 } ∧ base.bus.bootEn = false ∧
    Reaches base { base with pc := 0x0101 } :=
  have h : step base = .next { base with pc := 0x0101 } := next_of (by decide)
  ⟨h, by decide, .step _ _ _ h (.refl _)⟩

theorem witness_SerialOutOnlyAppended :
    ∃ t, step (ready [0xE2] { base with regs := { base.regs with a := 0x81, c := 0x02 } }) = .next t ∧
      t.bus.serialOut = [0x00] :=
  ⟨_, next_of rfl, by decide⟩

theorem witness_HiddenIoCells :
    ∀ i, i ≠ 0x01 → i ≠ 0x02 → i ≠ 0x44 → i ≠ 0x50 →
      Memory.load [(0x01, 0x5A), (0x50, 0xA5)] i = Memory.load base.bus.io i := by
  intro i h1 _ _ h4
  simp [Memory.load, Ne.symm h1, Ne.symm h4, base, State.reset, State.resetWith, Bus.resetWith, Config.resetParams]

theorem witness_BusStaysCanonical :
    ∃ t, step (ready [0x22] { base with regs := { base.regs with h := 0xC0 } }) = .next t ∧
      (ready [0x22] { base with regs := { base.regs with h := 0xC0 } }).bus.wf = true :=
  ⟨_, next_of rfl, by decide⟩

theorem witness_DecimalAdjust : (Flags.ofByte 0x00).n = false ∧ (Flags.ofByte 0x40).n = true := by decide

/-- A and B hold the packed decimal 99 and 99, and Cf is 1. -/
def ninetyNine : State := { base with regs := { base.regs with a := 0x99, b := 0x99 } }

theorem witness_DecimalArithmetic :
    ninetyNine.regs.a.toNat = 16 * 9 + 9 ∧ ninetyNine.regs.b.toNat = 16 * 9 + 9 ∧ ninetyNine.f.c = true ∧
    (nextOf (exec .adc_A_B ninetyNine)).bind (fun t => (nextOf (exec .daa t)).map fun u => (u.regs.a, u.f.c)) =
      some (0x99, true) := by decide

theorem witness_Jumps_taken :
    condHolds (Flags.ofByte 0x00) .nz = true ∧ condHolds (Flags.ofByte 0x80) .z = true ∧
    condHolds (Flags.ofByte 0x00) .nc = true ∧ condHolds (Flags.ofByte 0x10) .c = true := by decide

theorem witness_CallsAndRestarts_and_Returns :
    condHolds base.f .z = true ∧ condHolds base.f .nz = false := by decide

theorem witness_CallThenReturn :
    ([0xFF82, 0xFFFE, 0xFFFF] : List Word).all (fun v => decide (0xFF82 ≤ v.toNat ∧
      (nextOf (exec (.call_nn 0x0150) { base with sp := v })).bind
        (fun t => (nextOf (exec .ret t)).map fun u => (u.pc, u.sp)) = some (0x0100, v))) = true := by
  decide

theorem witness_PushAndPop : (Rp2.bc ≠ .af) ∧ (Rp2.af = .af) := by decide

theorem witness_LoadSixteen_and_IncDecPair : (Rp.bc ≠ .sp) := by decide

end Sys2Proof.Tests
end

section
/-! The round trip from an instruction through its bytes, and a Step at the bytes of an instruction. -/

namespace Sys2Proof

open Sys2Proof.Machine

/-- A 16-bit immediate is read back from its two halves (R98), whichever row takes it. -/
theorem ok_joinBytes_hi_lo (mk : Word → Instr) (nn : Word) (rest : List Byte) :
    (Except.ok (mk (joinBytes (hiByte nn) (loByte nn)), rest) : Except DecodeError (Instr × List Byte)) =
      .ok (mk nn, rest) := by
  rw [joinBytes_hi_lo]

/-- Decoding inverts encoding. On a row without a 16-bit immediate the decoder computes the row;
on the others it also has to put the two halves of the immediate together. -/
theorem decode_encode_append (i : Instr) (rest : List Byte) (hw : i.wellFormed = true) :
    decode (encode i ++ rest) = .ok (i, rest) := by
  cases i with
  | prefix_CB => exact absurd hw (by decide)
  | ld_BC_nn nn | ld_DE_nn nn | ld_HL_nn nn | ld_SP_nn nn | ld_atnn_SP nn | ld_atnn_A nn
  | ld_A_atnn nn | jp_nn nn | jp_NZ_nn nn | jp_Z_nn nn | jp_NC_nn nn | jp_C_nn nn | call_nn nn
  | call_NZ_nn nn | call_Z_nn nn | call_NC_nn nn | call_C_nn nn =>
    exact ok_joinBytes_hi_lo _ nn rest
  | _ => rfl

/-- No instruction is longer than three bytes (R109). -/
theorem encode_length_le_three (i : Instr) : (encode i).length ≤ 3 := by
  cases i <;> exact Nat.le_of_ble_eq_true rfl

end Sys2Proof

namespace Sys2Proof.Machine

open Sys2Proof

/-- The three bytes a fetch reads, the addresses wrapping (R26). -/
def fetchWindow (s : State) : List Byte := [s.read8 s.pc, s.read8 (s.pc + 1), s.read8 (s.pc + 2)]

theorem fetchWindow_getElem (s : State) (k : Nat) (hk : k < (fetchWindow s).length) :
    (fetchWindow s)[k] = s.read8 (s.pc + BitVec.ofNat 16 k) := by
  match k, hk with
  | 0, _ => exact congrArg s.read8 (BitVec.add_zero s.pc).symm
  | 1, _ => rfl
  | 2, _ => rfl

/-- The decoder reads from the window the instruction the fetch selects, and drops its bytes. -/
theorem decode_fetchWindow (s : State) :
    decode (fetchWindow s) =
      .ok (fetchInstr s, (fetchWindow s).drop (instrLength (s.read8 s.pc))) :=
  decode_three _ _ _ []

/-- Bytes that stand at pc one after the other begin the window. -/
theorem prefix_fetchWindow (s : State) (bytes : List Byte) (hlen : bytes.length ≤ 3)
    (hread : ∀ (k : Nat) (h : k < bytes.length), s.read8 (s.pc + BitVec.ofNat 16 k) = bytes[k]) :
    bytes <+: fetchWindow s := by
  refine List.prefix_iff_getElem.mpr ⟨hlen, fun k hk => ?_⟩
  rw [fetchWindow_getElem, hread k hk]

/-- A Step runs what the window decodes to; the bytes it took are those the decoder left out of `rest`. -/
theorem step_of_decode_fetchWindow {s : State} {i : Instr} {rest : List Byte} (hf : s.fault = none)
    (hd : decode (fetchWindow s) = .ok (i, rest)) :
    step s = exec i (s.setPC (s.pc + BitVec.ofNat 16 (3 - rest.length))) := by
  rw [decode_fetchWindow] at hd
  obtain ⟨rfl, rfl⟩ := Prod.mk.inj (Except.ok.inj hd)
  have hlen : 3 - ((fetchWindow s).drop (instrLength (s.read8 s.pc))).length =
      instrLength (s.read8 s.pc) := by
    rcases instrLength_cases (s.read8 s.pc) with h | h | h <;> rw [h] <;> rfl
  rw [hlen]
  exact step_eq_exec s hf

/-- A Step at the bytes of a well-formed instruction: the window is its encoding and what follows. -/
theorem step_of_encode_prefix {s : State} {i : Instr} (hf : s.fault = none) (hw : i.wellFormed = true)
    (hp : encode i <+: fetchWindow s) :
    step s = exec i (s.setPC (s.pc + BitVec.ofNat 16 (encode i).length)) := by
  obtain ⟨rest, hrest⟩ := hp
  have hd : decode (fetchWindow s) = .ok (i, rest) := hrest ▸ decode_encode_append i rest hw
  have hlen : (encode i).length + rest.length = 3 := by
    rw [← List.length_append, hrest]
    rfl
  rw [step_of_decode_fetchWindow hf hd, Nat.sub_eq_of_eq_add hlen.symm]

/-- Settles O10: the bytes at pc are the encoding, so they begin the window the fetch decodes. -/
theorem stepRunsEncoded : Obligations.StepRunsEncoded := by
  intro s i hf hw hread
  exact step_of_encode_prefix hf hw (prefix_fetchWindow s (encode i) (encode_length_le_three i) hread)

/-- Settles O9: the three bytes are the window the fetch decodes. -/
theorem stepRunsDecoded : Obligations.StepRunsDecoded := by
  intro s i rest hf hd _
  exact step_of_decode_fetchWindow hf hd

end Sys2Proof.Machine
end

section
/-! What every Step and every run keep of the bus: the canonical form and the cleared boot latch; and the
cells of the I/O array that no read shows. -/

namespace Sys2Proof.Machine

open Sys2Proof

/-! ### Steps and runs -/

/-- Only a running state takes a Step. -/
theorem fault_eq_none_of_step {s t : State} (h : step s = .next t) : s.fault = none := by
  cases hf : s.fault with
  | none => rfl
  | some r => cases (step_latched s r hf).symm.trans h

/-- What every Step keeps, every run keeps. -/
theorem Reaches.keeps {P : State → Prop} (hP : ∀ s t, Machine.step s = .next t → P s → P t) {s t : State}
    (h : Reaches s t) (hs : P s) : P t := by
  induction h with
  | refl s => exact hs
  | step s u t hu _ ih => exact ih (hP s u hu hs)

/-- What every byte write keeps, every Step keeps: a Step touches the bus with at most one write, and
a 16-bit write is two byte writes (R67). -/
theorem step_keeps_of_write8 {P : Bus → Prop} (hP : ∀ b x v, P b → P (b.write8 x v)) {s t : State}
    (h : step s = .next t) (hs : P s.bus) : P t.bus := by
  rw [step_eq_exec s (fault_eq_none_of_step h)] at h
  obtain ⟨u, hu, hbus⟩ := exec_effect _ _
  obtain rfl : u = t := Host.Outcome.next.inj (hu.symm.trans h)
  rcases hbus with hb | ⟨x, v, hb⟩ | ⟨x, v, hb⟩ <;> rw [hb, State.setPC_bus]
  · exact hs
  · exact hP _ _ _ hs
  · exact hP _ _ _ (hP _ _ _ hs)

/-- Settles O31: every byte write keeps the canonical form, so every Step does. -/
theorem busStaysCanonical : Obligations.BusStaysCanonical := by
  intro s t h hs
  exact step_keeps_of_write8 (P := fun b => b.wf = true) (fun _ x v => Bus.wf_write8 x v) h hs

/-! ### The boot latch -/

/-- A Step does not set the boot latch. -/
theorem step_keeps_bootEn_clear {s t : State} (h : step s = .next t) (hs : s.bus.bootEn = false) :
    t.bus.bootEn = false := by
  refine step_keeps_of_write8 (P := fun b => b.bootEn = false) (fun b x v hb => ?_) h hs
  rw [Bus.write8_bootEn, hb, Bool.false_and]

/-- The boot-ROM window shows the boot array exactly while the overlay is on (R55). -/
theorem resolve_window_eq_boot_iff (e : Bool) {a : Word} (ha : a.toNat ≤ 0x00FF) :
    resolve e a = .boot a.toNat ↔ e = true := by
  have hcart : a.toNat ≤ 0x7FFF := by omega
  cases e <;> simp [resolve, ha, hcart]

@[simp] theorem State.resetWith_bus (p : ResetParams) : (State.resetWith p).bus = Bus.resetWith p := by
  unfold State.resetWith
  split <;> rfl

/-- Settles O28: a byte write cannot set the latch, so no Step and no run can. -/
theorem bootLatchOneWay : Obligations.BootLatchOneWay := by
  refine ⟨Bus.write8_bootEn, fun s t => step_keeps_bootEn_clear, fun s t h hs => ?_,
    fun e a => resolve_window_eq_boot_iff e, fun p => ?_⟩
  · exact h.keeps (P := fun u => u.bus.bootEn = false) (fun _ _ => step_keeps_bootEn_clear) hs
  · rw [State.resetWith_bus]
    exact beq_iff_eq

/-! ### Cells no address reaches -/

/-- Four indexes of the I/O array stand behind addresses that resolve elsewhere (R51). -/
theorem resolve_eq_io {e : Bool} {a : Word} {i : Nat} (h : resolve e a = .io i) :
    i ≠ 0x01 ∧ i ≠ 0x02 ∧ i ≠ 0x44 ∧ i ≠ 0x50 := by
  revert h
  refine resolve_elim (P := fun t => t = .io i → i ≠ 0x01 ∧ i ≠ 0x02 ∧ i ≠ 0x44 ∧ i ≠ 0x50) e a
    ?_ ?_ ?_ ?_ ?_ ?_ ?_ ?_ ?_ ?_ ?_ ?io ?_ ?_
  case io =>
    intro _ _ h1 h2 h44 h50 h
    obtain rfl := Target.io.inj h
    omega
  all_goals intros; contradiction

/-- A read looks at the I/O array only in a cell that an address resolves to. -/
theorem Bus.read8_of_io_agrees (b : Bus) (m : Memory)
    (h : ∀ i, i ≠ 0x01 → i ≠ 0x02 → i ≠ 0x44 → i ≠ 0x50 → Memory.load m i = Memory.load b.io i)
    (a : Word) : ({ b with io := m } : Bus).read8 a = b.read8 a := by
  unfold Bus.read8
  cases hr : resolve b.bootEn a with
  | io i =>
    obtain ⟨h1, h2, h44, h50⟩ := resolve_eq_io hr
    exact h i h1 h2 h44 h50
  | _ => rfl

/-- Settles O30: no address resolves to the four cells, so no read shows them. -/
theorem hiddenIoCells : Obligations.HiddenIoCells := by
  refine ⟨fun e a => ?_, Bus.read8_of_io_agrees⟩
  refine ⟨fun h => ?_, fun h => ?_, fun h => ?_, fun h => ?_⟩ <;>
    obtain ⟨h1, h2, h44, h50⟩ := resolve_eq_io h <;> contradiction

end Sys2Proof.Machine
end

section
/-! The record of what was printed (R31): an operation only appends to it and does not look at it, so a
state whose record begins with more bytes runs as the state without them does. -/

namespace Sys2Proof.Machine

open Sys2Proof

/-! ### A record that begins with more bytes -/

/-- The bus whose record of what was printed begins with `o`. -/
def Bus.printedBefore (b : Bus) (o : List Byte) : Bus := { b with serialOut := o ++ b.serialOut }

/-- The state whose record of what was printed begins with `o`. -/
def State.printedBefore (s : State) (o : List Byte) : State := { s with bus := s.bus.printedBefore o }

/-- The outcome whose next state's record begins with `o`. -/
def printedBefore (r : Result) (o : List Byte) : Result :=
  match r with
  | .next t => .next (t.printedBefore o)
  | .fault f => .fault f
  | .refused f => .refused f

@[simp] theorem printedBefore_next (t : State) (o : List Byte) :
    printedBefore (.next t) o = .next (t.printedBefore o) := rfl

@[simp] theorem State.printedBefore_regs (s : State) (o : List Byte) :
    (s.printedBefore o).regs = s.regs := rfl
@[simp] theorem State.printedBefore_f (s : State) (o : List Byte) : (s.printedBefore o).f = s.f := rfl
@[simp] theorem State.printedBefore_sp (s : State) (o : List Byte) : (s.printedBefore o).sp = s.sp := rfl
@[simp] theorem State.printedBefore_pc (s : State) (o : List Byte) : (s.printedBefore o).pc = s.pc := rfl
@[simp] theorem State.printedBefore_bus (s : State) (o : List Byte) :
    (s.printedBefore o).bus = s.bus.printedBefore o := rfl
@[simp] theorem State.printedBefore_fault (s : State) (o : List Byte) :
    (s.printedBefore o).fault = s.fault := rfl

/-- Every record is one that begins with it and goes on with nothing. -/
theorem State.withOut_eq_printedBefore (s : State) (o : List Byte) :
    s.withOut o = (s.withOut []).printedBefore o := by
  simp [State.withOut, State.printedBefore, Bus.printedBefore]

/-! ### The operations of the state commute with it -/

@[simp] theorem Bus.printedBefore_read8 (b : Bus) (o : List Byte) (a : Word) :
    (b.printedBefore o).read8 a = b.read8 a := by
  change (b.printedBefore o).readTarget (resolve b.bootEn a) = b.readTarget (resolve b.bootEn a)
  cases resolve b.bootEn a <;> rfl

@[simp] theorem Bus.printedBefore_read16 (b : Bus) (o : List Byte) (a : Word) :
    (b.printedBefore o).read16 a = b.read16 a := by
  simp only [Bus.read16, Bus.printedBefore_read8]

/-- What a byte write prints goes behind what was printed before. -/
@[simp] theorem Bus.printedBefore_write8 (b : Bus) (o : List Byte) (x : Word) (v : Byte) :
    (b.printedBefore o).write8 x v = (b.write8 x v).printedBefore o := by
  change (b.printedBefore o).writeTarget (resolve b.bootEn x) v =
    (b.writeTarget (resolve b.bootEn x) v).printedBefore o
  cases resolve b.bootEn x with
  | serialCtrl =>
    simp only [Bus.writeTarget, Bus.writeSerialCtrl]
    split
    · simp [Bus.printedBefore]
    · rfl
  | _ => rfl

@[simp] theorem Bus.printedBefore_write16 (b : Bus) (o : List Byte) (x : Word) (v : Word) :
    (b.printedBefore o).write16 x v = (b.write16 x v).printedBefore o := by
  simp only [Bus.write16, Bus.printedBefore_write8]

@[simp] theorem State.printedBefore_write8 (s : State) (o : List Byte) (x : Word) (v : Byte) :
    (s.printedBefore o).write8 x v = (s.write8 x v).printedBefore o :=
  congrArg (fun b => { s with bus := b }) (s.bus.printedBefore_write8 o x v)

@[simp] theorem State.printedBefore_write16 (s : State) (o : List Byte) (x : Word) (v : Word) :
    (s.printedBefore o).write16 x v = (s.write16 x v).printedBefore o :=
  congrArg (fun b => { s with bus := b }) (s.bus.printedBefore_write16 o x v)

@[simp] theorem State.printedBefore_setReg (s : State) (o : List Byte) (r : Reg8) (v : Byte) :
    (s.printedBefore o).setReg r v = (s.setReg r v).printedBefore o := rfl
@[simp] theorem State.printedBefore_setHL (s : State) (o : List Byte) (v : Word) :
    (s.printedBefore o).setHL v = (s.setHL v).printedBefore o := rfl
@[simp] theorem State.printedBefore_setFlags (s : State) (o : List Byte) (g : Flags) :
    (s.printedBefore o).setFlags g = (s.setFlags g).printedBefore o := rfl
@[simp] theorem State.printedBefore_setSP (s : State) (o : List Byte) (v : Word) :
    (s.printedBefore o).setSP v = (s.setSP v).printedBefore o := rfl
@[simp] theorem State.printedBefore_setPC (s : State) (o : List Byte) (v : Word) :
    (s.printedBefore o).setPC v = (s.setPC v).printedBefore o := rfl
@[simp] theorem State.printedBefore_drop16 (s : State) (o : List Byte) :
    (s.printedBefore o).drop16 = s.drop16.printedBefore o := rfl

@[simp] theorem State.printedBefore_push16 (s : State) (o : List Byte) (v : Word) :
    (s.printedBefore o).push16 v = (s.push16 v).printedBefore o := by simp [State.push16]

@[simp] theorem State.printedBefore_getRp (s : State) (o : List Byte) (p : Rp) :
    (s.printedBefore o).getRp p = s.getRp p := by cases p <;> rfl
@[simp] theorem State.printedBefore_setRp (s : State) (o : List Byte) (p : Rp) (v : Word) :
    (s.printedBefore o).setRp p v = (s.setRp p v).printedBefore o := by cases p <;> rfl
@[simp] theorem State.printedBefore_getRp2 (s : State) (o : List Byte) (p : Rp2) :
    (s.printedBefore o).getRp2 p = s.getRp2 p := by cases p <;> rfl
@[simp] theorem State.printedBefore_setRp2 (s : State) (o : List Byte) (p : Rp2) (v : Word) :
    (s.printedBefore o).setRp2 p v = (s.setRp2 p v).printedBefore o := by cases p <;> rfl

@[simp] theorem State.printedBefore_indirectAddr (s : State) (o : List Byte) (i : Indirect) :
    (s.printedBefore o).indirectAddr i = s.indirectAddr i := by cases i <;> rfl
@[simp] theorem State.printedBefore_indirectUpdate (s : State) (o : List Byte) (i : Indirect) :
    (s.printedBefore o).indirectUpdate i = (s.indirectUpdate i).printedBefore o := by cases i <;> rfl

@[simp] theorem State.printedBefore_readOperand (s : State) (o : List Byte) (x : Operand8) :
    (s.printedBefore o).readOperand x = s.readOperand x := by
  cases x with
  | reg r => rfl
  | atHL => simp [State.readOperand]

@[simp] theorem State.printedBefore_writeOperand (s : State) (o : List Byte) (x : Operand8) (v : Byte) :
    (s.printedBefore o).writeOperand x v = (s.writeOperand x v).printedBefore o := by
  cases x with
  | reg r => rfl
  | atHL => simp [State.writeOperand]

/-! ### The instructions commute with it -/

theorem aluValue_printedBefore (op : AluOp) (v : Byte) (s : State) (o : List Byte) :
    aluValue op v (s.printedBefore o) = printedBefore (aluValue op v s) o := by
  cases op <;> rfl

theorem runCB_printedBefore (cb : Byte) (s : State) (o : List Byte) :
    runCB cb (s.printedBefore o) = printedBefore (runCB cb s) o := by
  unfold runCB
  split
  · simp [rotShift]
  · simp [bitTest]
  · simp [bitReset]
  · simp [bitSet]

/-- A conditional operation, from the operation. -/
theorem ite_printedBefore {c : Prop} [Decidable c] {r r' : Result} {s : State} {o : List Byte}
    (h : r' = printedBefore r o) :
    (if c then r' else .next (s.printedBefore o)) = printedBefore (if c then r else .next s) o := by
  split
  · exact h
  · rfl

/-- An operation on a state whose record begins with `o` does what it does without `o`, and leaves a
record that begins with `o`. -/
theorem run_printedBefore (f : Form) (s : State) (o : List Byte) :
    Form.run f (s.printedBefore o) = printedBefore (Form.run f s) o := by
  cases f with
  | nop | halt | di | ei | stop | illegal => rfl
  | prefixCB => simp [Form.run, prefixCB, runCB_printedBefore]
  | ldRegReg | ldRegImm | daa | cpl | scf | ccf | rotA | addSP | ldHLSP | ldSPHL | jp | jpHL | jr => rfl
  | alu op x => simp [Form.run, aluOperand, aluValue_printedBefore]
  | aluImm op n => exact aluValue_printedBefore op n s o
  | inc x => simp [Form.run, incOp]
  | dec x => simp [Form.run, decOp]
  | rot op x => simp [Form.run, rotShift]
  | bit b x => simp [Form.run, bitTest]
  | res b x => simp [Form.run, bitReset]
  | set b x => simp [Form.run, bitSet]
  | ldRegHL r => simp [Form.run, ldRegHL]
  | ldHLReg r => simp [Form.run, ldHLReg]
  | ldHLImm n => simp [Form.run, ldHLImm]
  | storeA i => simp [Form.run, storeA]
  | loadA i => simp [Form.run, loadA]
  | ldhStore n => simp [Form.run, ldhStore]
  | ldhLoad n => simp [Form.run, ldhLoad]
  | ldCStore => simp [Form.run, ldCStore]
  | ldCLoad => simp [Form.run, ldCLoad]
  | ldAbsStore nn => simp [Form.run, ldAbsStore]
  | ldAbsLoad nn => simp [Form.run, ldAbsLoad]
  | ldAbsSP nn => simp [Form.run, ldAbsSP]
  | ldRpImm p nn => simp [Form.run, ldRpImm]
  | addHL p => simp [Form.run, addHLPair]
  | incRp p => simp [Form.run, incPair]
  | decRp p => simp [Form.run, decPair]
  | jpIf cc nn => exact ite_printedBefore rfl
  | jrIf cc e => exact ite_printedBefore rfl
  | call nn => simp [Form.run, callAbs]
  | callIf cc nn => exact ite_printedBefore (by simp [callAbs])
  | ret | reti => simp [Form.run, ret]
  | retIf cc => exact ite_printedBefore (by simp [ret])
  | rst t => simp [Form.run, restart]
  | push p => simp [Form.run, pushPair]
  | pop p => simp [Form.run, popPair]

/-- A Step does the same behind any record. -/
theorem step_printedBefore (s : State) (o : List Byte) :
    step (s.printedBefore o) = printedBefore (step s) o := by
  cases hf : s.fault with
  | some r => rw [step_latched s r hf, step_latched (s.printedBefore o) r hf]; rfl
  | none =>
    rw [step_eq_run s hf, step_eq_run (s.printedBefore o) hf, ← run_printedBefore]
    simp

/-- Settles O29: a Step from an empty record prints some list, and from any record it appends that
list. -/
theorem serialOutOnlyAppended : Obligations.SerialOutOnlyAppended := by
  intro s t h
  have hs : s = (s.withOut []).printedBefore s.bus.serialOut := s.withOut_eq_printedBefore s.bus.serialOut
  rw [hs, step_printedBefore] at h
  cases hu : step (s.withOut []) with
  | fault r => rw [hu] at h; cases h
  | refused r => rw [hu] at h; cases h
  | next u =>
    rw [hu] at h
    obtain rfl := Host.Outcome.next.inj h
    refine ⟨u.bus.serialOut, rfl, fun o => ?_⟩
    rw [s.withOut_eq_printedBefore o, step_printedBefore, hu]
    rfl

end Sys2Proof.Machine
end

section
/-! Which parts of the state an operation writes: the flags by the table of R27, pc by R26, SP by R25,
and memory by R70. -/

namespace Sys2Proof.Machine

open Sys2Proof

/-! ### What holds of the state an operation answers -/

/-- Where the outcome is a next state, `P` holds of it. -/
def Leaves (P : State → Prop) (r : Result) : Prop := ∀ t, r = .next t → P t

theorem Leaves.next {P : State → Prop} {t : State} (h : P t) : Leaves P (.next t) := by
  intro u hu
  obtain rfl := Host.Outcome.next.inj hu
  exact h

/-- A conditional operation does what the operation does, or nothing. -/
theorem Leaves.ite {P : State → Prop} {c : Prop} [Decidable c] {r : Result} {s : State}
    (h : Leaves P r) (hs : P s) : Leaves P (if c then r else .next s) := by
  split
  · exact h
  · exact .next hs

/-! ### The flags -/

/-- The flags an accumulator operation computes agree with its row. -/
theorem aluResult_flagRow (op : AluOp) (a v : Byte) (cf : Bool) : op.flagRow (aluResult op a v cf).2 := by
  cases op with
  | add | adc | sub | sbc | cp => rfl
  | and | xor | or => exact ⟨rfl, rfl, rfl⟩

theorem aluValue_flagRow (op : AluOp) (v : Byte) (s : State) :
    Leaves (fun t => op.flagRow t.f) (aluValue op v s) := by
  have row := aluResult_flagRow op s.regs.a v s.f.c
  cases op <;> exact .next row

/-- DAA keeps N and clears Hf on both of its paths. -/
theorem daaResult_flags (a : Byte) (f : Flags) : (daaResult a f).2.n = f.n ∧ (daaResult a f).2.h = false := by
  unfold daaResult
  split <;> exact ⟨rfl, rfl⟩

/-- SWAP is the one rotate or shift that always clears Cf (R226). -/
theorem rotResult_swap_carry {op : RotOp} (v : Byte) (cf : Bool) (h : op = .swap) :
    (rotResult op v cf).2 = false := by
  subst h
  rfl

/-- Of the pairs a POP can name, AF alone has the flags. -/
theorem State.setRp2_f {s : State} {p : Rp2} (v : Word) (h : p ≠ .af) : (s.setRp2 p v).f = s.f := by
  cases p with
  | af => exact absurd rfl h
  | bc | de | hl => rfl

/-- The flags an operation leaves agree with its row of the table of R27. -/
theorem run_flagRow (f : Form) (s : State) : Leaves (fun t => f.flagRow s.f t.f) (Form.run f s) := by
  cases f with
  | prefixCB => exact fun _ _ => trivial
  | alu op x => exact aluValue_flagRow op _ s
  | aluImm op n => exact aluValue_flagRow op n s
  | ldHLSP | inc | dec | addHL | addSP => exact .next ⟨rfl, rfl⟩
  | daa => exact .next (daaResult_flags _ _)
  | rotA | ccf | bit => exact .next ⟨rfl, rfl, rfl⟩
  | cpl | scf => exact .next ⟨rfl, rfl, rfl, rfl⟩
  | rot op x => exact .next ⟨rfl, rfl, rotResult_swap_carry _ _⟩
  | pop p => exact .next (State.setRp2_f _)
  | ldRpImm | incRp | decRp => exact .next (State.setRp_f _ _ _)
  | storeA | loadA => exact .next (State.indirectUpdate_f _ _)
  | res | set => exact .next (State.writeOperand_f _ _ _)
  | jpIf | jrIf | callIf | retIf => exact .ite (.next rfl) rfl
  | nop | halt | stop | di | ei | illegal | ldRegReg | ldRegHL | ldHLReg | ldRegImm | ldHLImm
  | ldhStore | ldhLoad | ldCStore | ldCLoad | ldAbsStore | ldAbsLoad | ldAbsSP | ldSPHL | jp | jpHL
  | jr | call | ret | reti | rst | push => exact .next rfl

/-- Settles O18: an instruction runs the operation of its form. -/
theorem flagTable : Obligations.FlagTable := by
  intro i s t h
  rw [exec_eq_run] at h
  exact run_flagRow i.form s t h

/-! ### pc, SP and memory -/

theorem run_keeps_pc {f : Form} (hw : f.writesPC = false) (s : State) :
    Leaves (fun t => t.pc = s.pc) (Form.run f s) := by
  cases f with
  | stop | illegal | prefixCB | jp | jpIf | jpHL | jr | jrIf | call | callIf | ret | retIf | reti
  | rst => contradiction
  | alu op | aluImm op => cases op <;> exact .next rfl
  | inc | dec | rot | res | set => exact .next (State.writeOperand_pc _ _ _)
  | storeA | loadA => exact .next (State.indirectUpdate_pc _ _)
  | ldRpImm | incRp | decRp => exact .next (State.setRp_pc _ _ _)
  | pop => exact .next (State.setRp2_pc _ _ _)
  | _ => exact .next rfl

theorem State.setRp_sp {s : State} {p : Rp} (v : Word) (h : (p == .sp) = false) :
    (s.setRp p v).sp = s.sp := by
  cases p with
  | sp => contradiction
  | bc | de | hl => rfl

theorem run_keeps_sp {f : Form} (hw : f.writesSP = false) (hp : f ≠ .prefixCB) (s : State) :
    Leaves (fun t => t.sp = s.sp) (Form.run f s) := by
  cases f with
  | ldSPHL | addSP | call | callIf | ret | retIf | reti | rst | push | pop => contradiction
  | prefixCB => contradiction
  | alu op | aluImm op => cases op <;> exact .next rfl
  | inc | dec | rot | res | set => exact .next (State.writeOperand_sp _ _ _)
  | storeA | loadA => exact .next (State.indirectUpdate_sp _ _)
  | ldRpImm | incRp | decRp => exact .next (State.setRp_sp _ hw)
  | jpIf | jrIf => exact .ite (.next rfl) rfl
  | _ => exact .next rfl

theorem State.writeOperand_bus {s : State} {x : Operand8} (v : Byte) (h : (x == .atHL) = false) :
    (s.writeOperand x v).bus = s.bus := by
  cases x with
  | atHL => contradiction
  | reg r => rfl

theorem run_keeps_bus {f : Form} (hw : f.stores = false) (s : State) :
    Leaves (fun t => t.bus = s.bus) (Form.run f s) := by
  cases f with
  | prefixCB | ldHLReg | ldHLImm | storeA | ldhStore | ldCStore | ldAbsStore | ldAbsSP | call | callIf
  | rst | push => contradiction
  | alu op | aluImm op => cases op <;> exact .next rfl
  | inc | dec | rot | res | set => exact .next (State.writeOperand_bus _ hw)
  | loadA => exact .next (State.indirectUpdate_bus _ _)
  | ldRpImm | incRp | decRp => exact .next (State.setRp_bus _ _ _)
  | pop => exact .next (State.setRp2_bus _ _ _)
  | jpIf | jrIf | retIf => exact .ite (.next rfl) rfl
  | _ => exact .next rfl

/-- The byte 0xCB alone is no whole instruction, and no other row has its form (R101). -/
theorem form_ne_prefixCB {i : Instr} (hw : i.wellFormed = true) : i.form ≠ .prefixCB := by
  intro hf
  obtain rfl : i = .prefix_CB := by rw [← instr_form i, hf]; rfl
  contradiction

/-- Settles O19: an instruction runs the operation of its form. -/
theorem whoWritesWhat : Obligations.WhoWritesWhat := by
  intro i s t h
  rw [exec_eq_run] at h
  exact ⟨fun hpc => run_keeps_pc hpc s t h, fun hsp hw => run_keeps_sp hsp (form_ne_prefixCB hw) s t h,
    fun hmem => .of_eq (run_keeps_bus hmem s t h)⟩

end Sys2Proof.Machine
end

section
/-! Reset (R36 to R39) and the register pairs (R22). -/

namespace Sys2Proof.Machine

open Sys2Proof

/-! ### Reset -/

theorem State.resetWith_fault (p : ResetParams) : (State.resetWith p).fault = none := by
  unfold State.resetWith
  split <;> rfl

/-- The registers of R36, and the latch of R38. -/
theorem State.resetWith_skipBoot {p : ResetParams} (h : p.bootMode = .skipBoot) :
    State.resetWith p =
      { regs := { a := 0x01, b := 0x00, c := 0x13, d := 0x00, e := 0xD8, h := 0x01, l := 0x4D }
        f := { z := true, n := false, h := true, c := true }
        sp := 0xFFFE, pc := 0x0100, bus := { Bus.resetWith p with bootEn := false }, fault := none } := by
  simp [State.resetWith, Bus.resetWith, h]

/-- The registers of R37, and the latch of R38. -/
theorem State.resetWith_runBoot {p : ResetParams} (h : p.bootMode = .runBoot) :
    State.resetWith p =
      { regs := { a := 0x00, b := 0x00, c := 0x00, d := 0x00, e := 0x00, h := 0x00, l := 0x00 }
        f := { z := false, n := false, h := false, c := false }
        sp := 0x0000, pc := 0x0000, bus := { Bus.resetWith p with bootEn := true }, fault := none } := by
  simp [State.resetWith, Bus.resetWith, h]

/-- Settles O1: the state of each boot mode, and the bus of both. -/
theorem resetState : Obligations.ResetState := by
  intro p
  refine ⟨fun h => ?_, fun h => ?_, ?_⟩
  · rw [State.resetWith_skipBoot h]
    have bc : joinBytes 0x00 0x13 = 0x0013 := by decide
    have de : joinBytes 0x00 0xD8 = 0x00D8 := by decide
    have hl : joinBytes 0x01 0x4D = 0x014D := by decide
    exact ⟨rfl, rfl, rfl, bc, de, hl, rfl, rfl, rfl⟩
  · rw [State.resetWith_runBoot h]
    exact ⟨rfl, rfl, rfl, rfl, rfl, rfl, rfl, rfl⟩
  · rw [State.resetWith_bus]
    exact ⟨rfl, rfl, rfl, rfl, rfl, rfl, rfl, rfl, rfl, State.resetWith_fault p⟩

/-- Only 0xFF44 is the LCD line. -/
theorem resolve_eq_lcdLine {e : Bool} {a : Word} (h : resolve e a = .lcdLine) : a = 0xFF44 := by
  revert h
  refine resolve_elim (P := fun t => t = .lcdLine → a = 0xFF44) e a ?_ ?_ ?_ ?_ ?_ ?_ ?_ ?_ ?_ ?lcd ?_ ?_
    ?_ ?_
  case lcd => exact fun h _ => BitVec.eq_of_toNat_eq h
  all_goals intros; contradiction

/-- With no cell listed, every target but the LCD line reads as an unlisted cell or as zero (log 2). -/
theorem State.reset_read8 {a : Word} (ha : a ≠ 0xFF44) : State.reset.read8 a = 0x00 := by
  change State.reset.bus.readTarget (resolve State.reset.bus.bootEn a) = 0x00
  cases hr : resolve State.reset.bus.bootEn a with
  | lcdLine => exact absurd (resolve_eq_lcdLine hr) ha
  | _ => rfl

theorem State.wf_resetWith {p : ResetParams} (h : p.wf = true) : (State.resetWith p).bus.wf = true := by
  rw [State.resetWith_bus, Bus.wf_resetWith, h]

/-- Settles O2: the model's parameters are canonical, so its reset is. -/
theorem modelReset : Obligations.ModelReset :=
  ⟨rfl, rfl, fun _ => State.reset_read8, fun _ => State.wf_resetWith, State.wf_resetWith (by decide)⟩

/-! ### Pairs and F -/

/-- The mask of AF keeps A and the four flag bits. -/
theorem joinBytes_and_F0 (v : Word) : joinBytes (hiByte v) (loByte v &&& 0xF0) = v &&& 0xFFF0 := by
  calc joinBytes (hiByte v) (loByte v &&& 0xF0)
      = joinBytes (hiByte v &&& 0xFF) (loByte v &&& 0xF0) := by
        rw [show (0xFF : Byte) = BitVec.allOnes 8 from rfl, BitVec.and_allOnes]
    _ = joinBytes (hiByte v) (loByte v) &&& joinBytes 0xFF 0xF0 := BitVec.and_append.symm
    _ = v &&& 0xFFF0 := by rw [joinBytes_hi_lo]; rfl

theorem State.getRp2_setRp2_af (s : State) (v : Word) : (s.setRp2 .af v).getRp2 .af = v &&& 0xFFF0 := by
  change joinBytes (hiByte v) (Flags.ofByte (loByte v)).toByte = v &&& 0xFFF0
  rw [Flags.toByte_ofByte, joinBytes_and_F0]

/-- F as a byte, bit by bit (R21). -/
theorem Flags.toByte_getLsbD (f : Flags) (k : Nat) : f.toByte.getLsbD k =
    ((k == 7 && f.z) || (k == 6 && f.n) || (k == 5 && f.h) || (k == 4 && f.c)) := by
  obtain ⟨z, n, h, c⟩ := f
  by_cases hk : k < 8
  · have bits : ∀ (z n h c : Bool) (k : Fin 8), (Flags.toByte ⟨z, n, h, c⟩).getLsbD k =
        ((k.val == 7 && z) || (k.val == 6 && n) || (k.val == 5 && h) || (k.val == 4 && c)) := by decide
    exact bits z n h c ⟨k, hk⟩
  · have ne : ∀ j < 8, (k == j) = false := fun j hj => beq_false_of_ne (by omega)
    rw [BitVec.getLsbD_of_ge _ _ (by omega)]
    simp [ne]

/-- Settles O17: BC, DE and HL are read back whole, AF through the mask of F. -/
theorem pairViews : Obligations.PairViews := by
  refine ⟨fun s v => ⟨Regs.bc_setBC _ v, rfl, Regs.de_setDE _ v, rfl, Regs.hl_setHL _ v, rfl,
    s.getRp2_setRp2_af v, rfl⟩, fun s => ⟨rfl, rfl, rfl, rfl⟩, Flags.toByte_getLsbD,
    fun v => ⟨Flags.toByte_ofByte v, rfl⟩⟩

end Sys2Proof.Machine
end

section
/-! The memory bus (R51 to R72): what each row of the table of R51 covers, a byte access at a resolved
address, and which addresses name the same cell. -/

namespace Sys2Proof.Machine

open Sys2Proof

/-! ### The rows of the table of R51 -/

section
variable {e : Bool} {a : Word}

theorem resolve_cart (hw : ¬ (a.toNat ≤ 0x00FF ∧ e = true)) (ha : a.toNat ≤ 0x7FFF) :
    resolve e a = .cart a.toNat := by
  simp only [resolve, if_neg hw, if_pos ha]

theorem resolve_vram (hlo : 0x8000 ≤ a.toNat) (hhi : a.toNat ≤ 0x9FFF) :
    resolve e a = .vram (a.toNat - 0x8000) := by
  simp (disch := omega) only [resolve, if_neg, if_pos]

theorem resolve_wram (hlo : 0xC000 ≤ a.toNat) (hhi : a.toNat ≤ 0xDFFF) :
    resolve e a = .wram (a.toNat - 0xC000) := by
  simp (disch := omega) only [resolve, if_neg, if_pos]

theorem resolve_echo (hlo : 0xE000 ≤ a.toNat) (hhi : a.toNat ≤ 0xFDFF) :
    resolve e a = .wram (a.toNat - 0xE000) := by
  simp (disch := omega) only [resolve, if_neg, if_pos]

theorem resolve_unmapped (ha : (0xA000 ≤ a.toNat ∧ a.toNat ≤ 0xBFFF) ∨
    (0xFE00 ≤ a.toNat ∧ a.toNat ≤ 0xFEFF) ∨ a = 0xFFFF) : resolve e a = .unmapped := by
  obtain ⟨hlo, hhi⟩ | ⟨hlo, hhi⟩ | rfl := ha
  · simp (disch := omega) only [resolve, if_neg, if_pos]
  · simp (disch := omega) only [resolve, if_neg, if_pos]
  · cases e <;> rfl

theorem resolve_serialData : resolve e 0xFF01 = .serialData := by cases e <;> rfl

theorem resolve_lcdLine : resolve e 0xFF44 = .lcdLine := by cases e <;> rfl

theorem resolve_io (hlo : 0xFF00 ≤ a.toNat) (hhi : a.toNat ≤ 0xFF7F) (h01 : a ≠ 0xFF01)
    (h02 : a ≠ 0xFF02) (h44 : a ≠ 0xFF44) (h50 : a ≠ 0xFF50) :
    resolve e a = .io (a.toNat - 0xFF00) := by
  have ne : ∀ {x : Word}, a ≠ x → a.toNat ≠ x.toNat := fun h hx => h (BitVec.eq_of_toNat_eq hx)
  have n01 : a.toNat ≠ 0xFF01 := ne h01
  have n02 : a.toNat ≠ 0xFF02 := ne h02
  have n44 : a.toNat ≠ 0xFF44 := ne h44
  have n50 : a.toNat ≠ 0xFF50 := ne h50
  simp (disch := omega) only [resolve, if_neg, if_pos]

theorem resolve_hram (hlo : 0xFF80 ≤ a.toNat) (hhi : a.toNat ≤ 0xFFFE) :
    resolve e a = .hram (a.toNat - 0xFF80) := by
  simp (disch := omega) only [resolve, if_neg, if_pos]

end

/-- Settles O20: the lemma of each row of R51. -/
theorem memoryMap : Obligations.MemoryMap := by
  intro e a
  refine ⟨fun ha => (resolve_window_eq_boot_iff e ha).mpr, fun ha he => ?_,
    fun hlo => resolve_cart (by omega), resolve_vram, fun hlo hhi => resolve_unmapped (.inl ⟨hlo, hhi⟩),
    resolve_wram, resolve_echo, fun hlo hhi => resolve_unmapped (.inr (.inl ⟨hlo, hhi⟩)), ?_,
    resolve_eq_serialCtrl.mpr, ?_, resolve_eq_bootLatch.mpr, resolve_io, resolve_hram,
    fun ha => resolve_unmapped (.inr (.inr ha))⟩
  · exact resolve_cart (by simp [he]) (by omega)
  · rintro rfl; exact resolve_serialData
  · rintro rfl; exact resolve_lcdLine

/-! ### A byte access at a resolved address (R52, R53) -/

theorem Bus.read8_of_resolve {b : Bus} {a : Word} {t : Target} (h : resolve b.bootEn a = t) :
    b.read8 a = b.readTarget t := by
  rw [Bus.read8, h]

theorem Bus.write8_of_resolve {b : Bus} {a : Word} {t : Target} (h : resolve b.bootEn a = t) (v : Byte) :
    b.write8 a v = b.writeTarget t v := by
  rw [Bus.write8, h]

/-- Settles O21: the ranges resolve to Unmapped and 0xFF44 to the LCD line, whose reads are fixed and
whose writes are discarded. -/
theorem unmappedAndLcd : Obligations.UnmappedAndLcd := by
  refine ⟨fun b a v ha => ?_, fun b v => ?_⟩
  · exact ⟨Bus.read8_of_resolve (resolve_unmapped ha), Bus.write8_of_resolve (resolve_unmapped ha) v⟩
  · exact ⟨Bus.read8_of_resolve resolve_lcdLine, Bus.write8_of_resolve resolve_lcdLine v⟩

/-- A byte written to a cell is read at every address that names the cell. -/
theorem Bus.read8_write8_of_resolve_eq (b : Bus) {x a : Word} (v : Byte)
    (hxa : resolve b.bootEn a = resolve b.bootEn x) (hcell : (resolve b.bootEn x).isCell = true) :
    (b.write8 x v).read8 a = v := by
  have hx : x ≠ 0xFF50 := by
    rintro rfl
    rw [resolve_eq_bootLatch.mpr rfl] at hcell
    contradiction
  rw [Bus.read8_write8 b a v hx, if_pos ⟨hxa, hcell⟩]

/-! ### The mirror (R57) -/

theorem resolve_mirror {e : Bool} {a : Word} (hlo : 0xC000 ≤ a.toNat) (hhi : a.toNat ≤ 0xDDFF) :
    resolve e (a + 0x2000) = resolve e a := by
  have hm : (a + 0x2000).toNat = a.toNat + 0x2000 := by
    rw [BitVec.toNat_add]
    exact Nat.mod_eq_of_lt (by simp; omega)
  rw [resolve_wram hlo (by omega), resolve_echo (by omega) (by omega), hm]
  exact congrArg Target.wram (by omega)

/-- Settles O22: an address and its mirror name the same cell. -/
theorem workRamMirror : Obligations.WorkRamMirror := by
  intro b a v hlo hhi
  have hcell : (resolve b.bootEn a).isCell = true := by rw [resolve_wram hlo hhi]; rfl
  refine ⟨b.read8_write8_of_resolve_eq v rfl hcell, fun hm => ?_⟩
  have mirror : resolve b.bootEn (a + 0x2000) = resolve b.bootEn a := resolve_mirror hlo hm
  have hcell' : (resolve b.bootEn (a + 0x2000)).isCell = true := by rw [mirror]; exact hcell
  exact ⟨congrArg b.readTarget mirror, b.read8_write8_of_resolve_eq v mirror hcell,
    b.read8_write8_of_resolve_eq v mirror.symm hcell',
    b.read8_write8_of_resolve_eq v rfl hcell'⟩

/-! ### Cells with one address (R56, R59, R63, R65) -/

/-- The one address of a cell that is plain storage; none for the work RAM, which has two names, and
for the targets whose accesses do something else (R60 to R62). -/
def Target.plainAddress : Target → Option Nat
  | .boot i | .cart i => some i
  | .vram i => some (0x8000 + i)
  | .io i => some (0xFF00 + i)
  | .hram i => some (0xFF80 + i)
  | .serialData => some 0xFF01
  | .wram _ | .serialCtrl | .lcdLine | .bootLatch | .unmapped => none

theorem Target.isCell_of_plainAddress {t : Target} {n : Nat} (h : t.plainAddress = some n) :
    t.isCell = true := by
  cases t with
  | lcdLine | bootLatch | unmapped => contradiction
  | _ => rfl

/-- An address that resolves to plain storage is its one address. -/
theorem resolve_plainAddress (e : Bool) (x : Word) :
    (resolve e x).plainAddress = none ∨ (resolve e x).plainAddress = some x.toNat := by
  have offset : ∀ {k : Nat}, k ≤ x.toNat → some (k + (x.toNat - k)) = some x.toNat :=
    fun h => congrArg some (Nat.add_sub_of_le h)
  exact resolve_elim (P := fun t => t.plainAddress = none ∨ t.plainAddress = some x.toNat) e x
    (boot := fun _ => .inr rfl) (cart := fun _ _ => .inr rfl) (vram := fun h _ => .inr (offset h))
    (unA := fun _ _ => .inl rfl) (wram := fun _ _ => .inl rfl) (echo := fun _ _ => .inl rfl)
    (unB := fun _ _ => .inl rfl) (sd := fun h => .inr (congrArg some h.symm)) (sc := fun _ => .inl rfl)
    (lcd := fun _ => .inl rfl) (latch := fun _ => .inl rfl)
    (io := fun h _ _ _ _ _ => .inr (offset h)) (hram := fun h _ => .inr (offset h))
    (unC := fun _ => .inl rfl)

theorem resolve_plainAddress_of_range {e : Bool} {a : Word}
    (ha : a.toNat ≤ 0x9FFF ∨ (0xFF80 ≤ a.toNat ∧ a.toNat ≤ 0xFFFE) ∨
      (0xFF00 ≤ a.toNat ∧ a.toNat ≤ 0xFF7F ∧ a ≠ 0xFF02 ∧ a ≠ 0xFF44 ∧ a ≠ 0xFF50)) :
    (resolve e a).plainAddress = some a.toNat := by
  refine (resolve_plainAddress e a).resolve_left ?_
  obtain ha | ⟨hlo, hhi⟩ | ⟨hlo, hhi, h02, h44, h50⟩ := ha
  · by_cases hw : a.toNat ≤ 0x00FF ∧ e = true
    · rw [(resolve_window_eq_boot_iff e hw.1).mpr hw.2]; exact Option.some_ne_none _
    · by_cases hc : a.toNat ≤ 0x7FFF
      · rw [resolve_cart hw hc]; exact Option.some_ne_none _
      · rw [resolve_vram (by omega) ha]; exact Option.some_ne_none _
  · rw [resolve_hram hlo hhi]; exact Option.some_ne_none _
  · by_cases h01 : a = 0xFF01
    · rw [h01, resolve_serialData]; exact Option.some_ne_none _
    · rw [resolve_io hlo hhi h01 h02 h44 h50]; exact Option.some_ne_none _

/-- No other address resolves to a cell of plain storage. -/
theorem resolve_injective_of_plainAddress {e : Bool} {a x : Word} {n : Nat}
    (ha : (resolve e a).plainAddress = some n) (h : resolve e x = resolve e a) : x = a := by
  have addr : ∀ y, (resolve e y).plainAddress = some n → y.toNat = n := fun y hy =>
    (resolve_plainAddress e y).elim (fun hn => by rw [hn] at hy; contradiction)
      fun hs => Option.some.inj (hs.symm.trans hy)
  exact BitVec.eq_of_toNat_eq ((addr x (h ▸ ha)).trans (addr a ha).symm)

/-- A write below 0x8000 goes to the array the window shows (R65). -/
theorem Bus.write8_rom (b : Bus) {a : Word} (v : Byte) (ha : a.toNat ≤ 0x7FFF) :
    b.write8 a v = (if a.toNat ≤ 0x00FF ∧ b.bootEn = true
      then { b with boot := Memory.store b.boot a.toNat v }
      else { b with cart := Memory.store b.cart a.toNat v }) := by
  split
  case isTrue hw => exact Bus.write8_of_resolve ((resolve_window_eq_boot_iff _ hw.1).mpr hw.2) v
  case isFalse hw => exact Bus.write8_of_resolve (resolve_cart hw ha) v

/-- Settles O23: the addresses resolve to cells of plain storage, each named by one address. -/
theorem plainStorage : Obligations.PlainStorage := by
  refine ⟨fun b a v ha => ?_, fun b a v => b.write8_rom v⟩
  have plain : (resolve b.bootEn a).plainAddress = some a.toNat := resolve_plainAddress_of_range ha
  have hcell := Target.isCell_of_plainAddress plain
  have h02 : a ≠ 0xFF02 := by
    rintro rfl
    rw [resolve_eq_serialCtrl.mpr rfl] at plain
    contradiction
  have h50 : a ≠ 0xFF50 := by
    rintro rfl
    rw [resolve_eq_bootLatch.mpr rfl] at plain
    contradiction
  refine ⟨b.read8_write8_of_resolve_eq v rfl hcell, fun x hx => ?_, ?_, ?_⟩
  · rw [Bus.read8_write8 b x v h50,
      if_neg fun h => hx (resolve_injective_of_plainAddress plain h.1)]
  · rw [Bus.write8_serialOut, if_neg fun h => h02 h.1]
  · rw [Bus.write8_bootEn, decide_eq_true h50, Bool.and_true]

/-! ### The serial pair (R60) -/

theorem Bus.write8_serialCtrl (b : Bus) (v : Byte) : b.write8 0xFF02 v =
    { b with
      serialCtrl := v
      serialOut := if v = 0x81 then b.serialOut ++ [b.serialData] else b.serialOut } := by
  rw [Bus.write8_of_resolve (resolve_eq_serialCtrl.mpr rfl)]
  simp only [Bus.writeTarget, Bus.writeSerialCtrl]
  split <;> rfl

theorem Bus.write8_serialData (b : Bus) (v : Byte) : b.write8 0xFF01 v = { b with serialData := v } :=
  Bus.write8_of_resolve resolve_serialData v

/-- Settles O24: the two addresses resolve to the serial pair, and only 0xFF02 emits. -/
theorem serialPrint : Obligations.SerialPrint := by
  intro b v
  refine ⟨b.write8_serialCtrl v, b.write8_serialData v, Bus.read8_of_resolve resolve_serialData,
    Bus.read8_of_resolve (resolve_eq_serialCtrl.mpr rfl), fun x hx => ?_⟩
  rw [Bus.write8_serialOut, if_neg fun h => hx h.1]

/-! ### The boot-ROM overlay (R55, R62) -/

/-- While the overlay is on, no address names one of the first 256 cells of the cartridge. -/
theorem resolve_ne_cart_of_overlay {a : Word} {i : Nat} (hi : i ≤ 0x00FF) :
    resolve true a ≠ .cart i := by
  refine resolve_elim (P := fun t => t ≠ .cart i) true a ?_ ?cart ?_ ?_ ?_ ?_ ?_ ?_ ?_ ?_ ?_ ?_ ?_ ?_
  case cart =>
    intro hw _ h
    obtain rfl := Target.cart.inj h
    exact hw ⟨hi, rfl⟩
  all_goals intros; exact Target.noConfusion

/-- With the overlay off, no address names the boot array. -/
theorem resolve_false_ne_boot (a : Word) (i : Nat) : resolve false a ≠ .boot i := by
  refine resolve_elim (P := fun t => t ≠ .boot i) false a ?boot ?_ ?_ ?_ ?_ ?_ ?_ ?_ ?_ ?_ ?_ ?_ ?_ ?_
  case boot => exact fun hw => absurd hw.2 Bool.false_ne_true
  all_goals intros; exact Target.noConfusion

/-- A target other than the boot array reads the same whatever the boot array holds. -/
theorem Bus.readTarget_boot_irrelevant (b : Bus) (m : Memory) {t : Target} (ht : ∀ i, t ≠ .boot i) :
    ({ b with boot := m } : Bus).readTarget t = b.readTarget t := by
  cases t with
  | boot i => exact absurd rfl (ht i)
  | _ => rfl

theorem Bus.writeTarget_boot (b : Bus) (v : Byte) {t : Target} (ht : ∀ i, t ≠ .boot i) :
    (b.writeTarget t v).boot = b.boot := by
  cases t with
  | boot i => exact absurd rfl (ht i)
  | serialCtrl =>
    simp only [Bus.writeTarget, Bus.writeSerialCtrl]
    split <;> rfl
  | _ => rfl

/-- Settles O25: the latch decides which array the window resolves to. -/
theorem bootOverlay : Obligations.BootOverlay := by
  refine ⟨fun b v => ?_, fun b a v ha he => ?_, fun b a v i he hi => ?_, fun b m a v he => ?_⟩
  · exact ⟨b.write8_bootLatch v, Bus.read8_of_resolve (resolve_eq_bootLatch.mpr rfl)⟩
  · have hboot := (resolve_window_eq_boot_iff b.bootEn ha).mpr he
    refine ⟨Bus.read8_of_resolve hboot, Bus.write8_of_resolve hboot v, ?_⟩
    rw [Bus.write8_bootLatch]
    exact Bus.read8_of_resolve (resolve_cart (by simp) (by omega))
  · have hcart : resolve b.bootEn a ≠ .cart i := he ▸ resolve_ne_cart_of_overlay hi
    have hread := b.readTarget_writeTarget (resolve b.bootEn a) (.cart i) v
    rw [if_neg fun h => hcart h.1.symm] at hread
    exact ⟨hcart, hread⟩
  · have hboot : ∀ i, resolve b.bootEn a ≠ .boot i := he ▸ resolve_false_ne_boot a
    exact ⟨b.readTarget_boot_irrelevant m hboot, b.writeTarget_boot v hboot⟩

/-! ### 16-bit accesses (R66, R67) -/

/-- With 0x81 as the high byte, the low byte is in the serial data when the high byte emits it. -/
theorem Bus.write16_serial_emits_low (b : Bus) {v : Word} (hv : hiByte v = 0x81) :
    (b.write16 0xFF01 v).serialOut = b.serialOut ++ [loByte v] := by
  change ((b.write8 0xFF01 (loByte v)).write8 0xFF02 (hiByte v)).serialOut = _
  rw [Bus.write8_serialData, Bus.write8_serialCtrl, hv]
  rfl

/-- Settles O26: the two halves of the value are its remainder and its quotient by 256. -/
theorem twoByteAccess : Obligations.TwoByteAccess := by
  refine ⟨fun b a => joinBytes_toNat _ _, fun b a v => ?_, fun b v hv => ?_⟩
  · rw [← loByte_eq_ofNat, ← hiByte_eq_ofNat]
    rfl
  · rw [← loByte_eq_ofNat]
    exact b.write16_serial_emits_low (by rw [hiByte_eq_ofNat, hv]; rfl)

/-! ### Sequences of byte writes (R72) -/

/-- The bus after a sequence of byte writes, the first of the list first. -/
def Bus.writeAll (b : Bus) (ws : List (Word × Byte)) : Bus := ws.foldl (fun m w => m.write8 w.1 w.2) b

theorem Bus.writeAll_concat (b : Bus) (ws : List (Word × Byte)) (w : Word × Byte) :
    b.writeAll (ws ++ [w]) = (b.writeAll ws).write8 w.1 w.2 := by
  simp [Bus.writeAll]

theorem Bus.writeAll_bootEn (b : Bus) {ws : List (Word × Byte)} (hws : ∀ w ∈ ws, w.1 ≠ 0xFF50) :
    (b.writeAll ws).bootEn = b.bootEn := by
  induction ws using List.reverseRecOn with
  | nil => rfl
  | append_singleton ws w ih =>
    obtain ⟨hws, hw⟩ := List.forall_mem_append.mp hws
    rw [Bus.writeAll_concat, Bus.write8_bootEn, ih hws, decide_eq_true (hw w (by simp)), Bool.and_true]

/-- Settles O27, by induction on the sequence from its last write: that write is the one read back, or
it does not matter. -/
theorem mostRecentWrite : Obligations.MostRecentWrite := by
  intro b ws a hws
  change (b.writeAll ws).read8 a = _
  induction ws using List.reverseRecOn with
  | nil => rfl
  | append_singleton ws w ih =>
    obtain ⟨hws, hw⟩ := List.forall_mem_append.mp hws
    rw [Bus.writeAll_concat, Bus.read8_write8 _ _ _ (hw w (by simp)), Bus.writeAll_bootEn b hws, ih hws,
      List.reverse_append, List.reverse_singleton, List.singleton_append]
    by_cases hr : resolve b.bootEn w.1 = resolve b.bootEn a
    · by_cases hcell : (resolve b.bootEn a).isCell = true
      · simp [hr, hcell]
      · simp [hr, hcell]
    · simp [hr, Ne.symm hr]

end Sys2Proof.Machine
end

section
/-! The encoding (R101 to R109): the decoder inverts the encoder and the encoder the decoder, blocks 1
and 2 and the CB page by the fields of the byte, and the length by the first byte. -/

namespace Sys2Proof

open Sys2Proof.Machine

/-! ### The two round trips -/

/-- Settles O4, by cases on the row (`decode_encode_append`). -/
theorem decodeOfEncode : Obligations.DecodeOfEncode := decode_encode_append

/-- What the decoder reads after any first byte but 0xCB: the instruction of that byte and two
more, of which it takes those that are its own. -/
theorem decode_unprefixed {b0 : Byte} {tail rest : List Byte} {i : Instr} (hcb : b0 ≠ 0xCB)
    (h : decode (b0 :: tail) = .ok (i, rest)) :
    ∃ b1 b2, i = decodeBytes b0 b1 b2 ∧ b0 :: tail = [b0, b1, b2].take (instrLength b0) ++ rest := by
  unfold decode at h
  dsimp only at h
  split at h
  case h_4 => rw [if_neg hcb] at h; cases h
  all_goals
    rename_i hlen
    obtain ⟨rfl, rfl⟩ := Prod.mk.inj (Except.ok.inj h)
    rw [hlen]
    exact ⟨_, _, rfl, rfl⟩

/-- 0xCB with no byte after it is a row of the table by itself; with one, a row of the CB page (R101). -/
theorem encode_append_of_decode_prefix {tail rest : List Byte} {i : Instr}
    (h : decode (0xCB :: tail) = .ok (i, rest)) : 0xCB :: tail = encode i ++ rest := by
  cases tail with
  | nil =>
    obtain ⟨rfl, rfl⟩ := Prod.mk.inj (Except.ok.inj h)
    rfl
  | cons cb tail =>
    obtain ⟨rfl, rfl⟩ := Prod.mk.inj (Except.ok.inj ((decode_cb cb tail).symm.trans h))
    rw [(encode_decodeCB cb).1]
    rfl

/-- Settles O5, by the first byte: none, 0xCB, or another. -/
theorem encodeOfDecode : Obligations.EncodeOfDecode := by
  intro bytes rest i h
  cases bytes with
  | nil => cases h
  | cons b0 tail =>
    by_cases hcb : b0 = 0xCB
    · subst hcb
      exact encode_append_of_decode_prefix h
    · obtain ⟨b1, b2, rfl, hbytes⟩ := decode_unprefixed hcb h
      rw [hbytes, decodeBytes, encode_decodeForm b0 b1 b2 hcb]

/-! ### The fields of a byte (R91) -/

/-- The byte `64 * blk + 8 * mid + low`. -/
def byteOfFields (blk mid low : Nat) : Byte := BitVec.ofNat 8 (64 * blk + 8 * mid + low)

theorem fieldBlk_eq (b : Byte) : fieldBlk b = b.toNat / 64 := by
  have := b.isLt
  simp [fieldBlk, Nat.shiftRight_eq_div_pow]
  omega

theorem fieldMid_eq (b : Byte) : fieldMid b = b.toNat / 8 % 8 := by
  simp [fieldMid, Nat.shiftRight_eq_div_pow]

theorem fieldLow_eq (b : Byte) : fieldLow b = b.toNat % 8 := by
  simp [fieldLow]

/-- A byte is made of its fields. -/
theorem byteOfFields_fields (b : Byte) : byteOfFields (fieldBlk b) (fieldMid b) (fieldLow b) = b := by
  apply BitVec.eq_of_toNat_eq
  have := b.isLt
  rw [fieldBlk_eq, fieldMid_eq, fieldLow_eq, byteOfFields, BitVec.toNat_ofNat]
  omega

@[simp] theorem fieldBlk_byteOfFields {blk mid low : Nat} (hb : blk < 4) (hm : mid < 8) (hl : low < 8) :
    fieldBlk (byteOfFields blk mid low) = blk := by
  rw [fieldBlk_eq, byteOfFields, BitVec.toNat_ofNat]
  omega

@[simp] theorem fieldMid_byteOfFields (blk : Nat) {mid low : Nat} (hm : mid < 8) (hl : low < 8) :
    fieldMid (byteOfFields blk mid low) = mid := by
  rw [fieldMid_eq, byteOfFields, BitVec.toNat_ofNat]
  omega

@[simp] theorem fieldLow_byteOfFields (blk mid : Nat) {low : Nat} (hl : low < 8) :
    fieldLow (byteOfFields blk mid low) = low := by
  rw [fieldLow_eq, byteOfFields, BitVec.toNat_ofNat]
  omega

/-! ### A selector and its index -/

@[simp] theorem Operand8.index_lt (o : Operand8) : o.index < 8 := by
  cases o with
  | reg r => cases r <;> decide
  | atHL => decide

@[simp] theorem AluOp.index_lt (op : AluOp) : op.index < 8 := by cases op <;> decide

@[simp] theorem RotOp.index_lt (op : RotOp) : op.index < 8 := by cases op <;> decide

@[simp] theorem BitIdx.index_lt (b : BitIdx) : b.index < 8 := by cases b <;> decide

@[simp] theorem operandOfIndex_index (o : Operand8) : operandOfIndex o.index = o := by
  cases o with
  | reg r => cases r <;> rfl
  | atHL => rfl

@[simp] theorem aluOfIndex_index (op : AluOp) : aluOfIndex op.index = op := by cases op <;> rfl

@[simp] theorem rotOfIndex_index (op : RotOp) : rotOfIndex op.index = op := by cases op <;> rfl

@[simp] theorem bitOfIndex_index (b : BitIdx) : bitOfIndex b.index = b := by cases b <;> rfl

theorem index_operandOfIndex : ∀ n < 8, (operandOfIndex n).index = n := by decide

theorem index_rotOfIndex : ∀ n < 8, (rotOfIndex n).index = n := by decide

theorem index_bitOfIndex : ∀ n < 8, (bitOfIndex n).index = n := by decide

/-! ### Blocks 1 and 2 (R103, R104) -/

/-- Every longer instruction has its first byte in block 0 or block 3 (R109). -/
theorem instrLength_of_middle_block {b0 : Byte} (h : fieldBlk b0 = 1 ∨ fieldBlk b0 = 2) :
    instrLength b0 = 1 := by
  have h3 : ∀ b ∈ threeByteOpcodes, ¬(fieldBlk b = 1 ∨ fieldBlk b = 2) := by decide
  have h2 : ∀ b ∈ twoByteOpcodes, ¬(fieldBlk b = 1 ∨ fieldBlk b = 2) := by decide
  rw [instrLength, if_neg fun hb => h3 b0 hb h, if_neg fun hb => h2 b0 hb h]

theorem ne_prefix_of_middle_block {b0 : Byte} (h : fieldBlk b0 = 1 ∨ fieldBlk b0 = 2) : b0 ≠ 0xCB := by
  rintro rfl
  exact absurd h (by decide)

/-- An instruction of blocks 1 and 2 is its first byte. -/
theorem decode_middle_block {b0 : Byte} (h : fieldBlk b0 = 1 ∨ fieldBlk b0 = 2) (rest : List Byte) :
    decode (b0 :: rest) = .ok (decodeBytes b0 0 0, rest) := by
  unfold decode
  dsimp only
  rw [instrLength_of_middle_block h]
  rfl

theorem decode_block1 {b0 : Byte} (h : fieldBlk b0 = 1) (rest : List Byte) :
    decode (b0 :: rest) = .ok ((decodeBlock1 b0).instr, rest) := by
  rw [decode_middle_block (.inl h), decodeBytes, decodeForm, if_neg (ne_prefix_of_middle_block (.inl h)), h]
  rfl

theorem decode_block2 {b0 : Byte} (h : fieldBlk b0 = 2) (rest : List Byte) :
    decode (b0 :: rest) = .ok ((decodeBlock2 b0).instr, rest) := by
  rw [decode_middle_block (.inr h), decodeBytes, decodeForm, if_neg (ne_prefix_of_middle_block (.inr h)), h]
  rfl

/-- The form of `LD dst,src` on two operands (R103): with the byte at HL on both sides it is HALT. -/
def Form.ofLoad : Operand8 → Operand8 → Form
  | .reg dst, .reg src => .ldRegReg dst src
  | .reg dst, .atHL => .ldRegHL dst
  | .atHL, .reg src => .ldHLReg src
  | .atHL, .atHL => .halt

theorem decodeBlock1_eq (b0 : Byte) :
    decodeBlock1 b0 = Form.ofLoad (operandOfIndex (fieldMid b0)) (operandOfIndex (fieldLow b0)) := rfl

theorem decode_load (dst src : Operand8) (rest : List Byte) :
    decode (byteOfFields 1 dst.index src.index :: rest) = .ok ((Form.ofLoad dst src).instr, rest) := by
  rw [decode_block1 (by simp)]
  simp [decodeBlock1_eq]

theorem decode_alu (op : AluOp) (o : Operand8) (rest : List Byte) :
    decode (byteOfFields 2 op.index o.index :: rest) = .ok ((Form.alu op o).instr, rest) := by
  rw [decode_block2 (by simp)]
  simp [decodeBlock2]

/-- Settles O6: the four clauses of block 1 are one load, with a register or the byte at HL on each side. -/
theorem blocksOneAndTwo : Obligations.BlocksOneAndTwo :=
  ⟨fun dst src => decode_load (.reg dst) (.reg src), fun dst => decode_load (.reg dst) .atHL,
    fun src => decode_load .atHL (.reg src), decode_load .atHL .atHL, decode_alu⟩

/-! ### The CB page (R106) -/

theorem decodeCB_rot (op : RotOp) (o : Operand8) :
    decodeCB (byteOfFields 0 op.index o.index) = .rot op o := by simp [decodeCB]

theorem decodeCB_bit (b : BitIdx) (o : Operand8) :
    decodeCB (byteOfFields 1 b.index o.index) = .bit b o := by simp [decodeCB]

theorem decodeCB_res (b : BitIdx) (o : Operand8) :
    decodeCB (byteOfFields 2 b.index o.index) = .res b o := by simp [decodeCB]

theorem decodeCB_set (b : BitIdx) (o : Operand8) :
    decodeCB (byteOfFields 3 b.index o.index) = .set b o := by simp [decodeCB]

theorem decode_cb_of_eq {cb : Byte} {f : Form} (h : decodeCB cb = f) (rest : List Byte) :
    decode (0xCB :: cb :: rest) = .ok (f.instr, rest) := by
  rw [decode_cb, h]

theorem byteOfFields_zero (mid low : Nat) : byteOfFields 0 mid low = BitVec.ofNat 8 (8 * mid + low) := by
  rw [byteOfFields, Nat.mul_zero, Nat.zero_add]

/-- Every byte is in one of the four quarters of the page. -/
theorem byte_quarters (cb : Byte) : ∃ mid low, mid < 8 ∧ low < 8 ∧
    (cb = byteOfFields 0 mid low ∨ cb = byteOfFields 1 mid low ∨ cb = byteOfFields 2 mid low ∨
      cb = byteOfFields 3 mid low) := by
  refine ⟨fieldMid cb, fieldLow cb, ?_, ?_, ?_⟩
  · rw [fieldMid_eq]; omega
  · rw [fieldLow_eq]; omega
  · have hb : fieldBlk cb < 4 := by rw [fieldBlk_eq]; have := cb.isLt; omega
    have hcb := (byteOfFields_fields cb).symm
    interval_cases fieldBlk cb <;> simp [← hcb]

/-- Settles O7: by the four quarters of the page; the selectors of a second byte are those its fields
index. -/
theorem cbPage : Obligations.CBPage := by
  refine ⟨fun op o rest => ?_, fun b o rest => ⟨?_, ?_, ?_⟩, fun cb rest => ?_⟩
  · rw [← byteOfFields_zero]
    exact decode_cb_of_eq (decodeCB_rot op o) rest
  · exact decode_cb_of_eq (decodeCB_bit b o) rest
  · exact decode_cb_of_eq (decodeCB_res b o) rest
  · exact decode_cb_of_eq (decodeCB_set b o) rest
  · obtain ⟨mid, low, hm, hl, hcb⟩ := byte_quarters cb
    refine ⟨⟨mid, hm⟩, operandOfIndex low, rotOfIndex mid, bitOfIndex mid, index_rotOfIndex mid hm,
      index_bitOfIndex mid hm, ?_, _, decode_cb cb rest⟩
    rw [index_operandOfIndex low hl, ← byteOfFields_zero]
    exact hcb

/-! ### The length (R109) -/

/-- A condition that does not hold leaves the state as it is. -/
theorem exec_not_taken (cc : Cond) (nn : Word) (e : Byte) (s : State) (h : condHolds s.f cc = false) :
    exec (Form.jpIf cc nn).instr s = .next s ∧ exec (Form.jrIf cc e).instr s = .next s ∧
    exec (Form.callIf cc nn).instr s = .next s ∧ exec (Form.retIf cc).instr s = .next s := by
  simp [exec_instr, Form.run, jpAbsIf, jrRelIf, callIf, retIf, h]

/-- Settles O8: the fetch drops the bytes its first byte says, and the CB page encodes back. -/
theorem lengthFromFirstByte : Obligations.LengthFromFirstByte := by
  refine ⟨fun b0 b1 b2 rest => ⟨_, _, decode_three b0 b1 b2 rest, rfl⟩, exec_not_taken,
    fun cb rest => ?_, rfl⟩
  obtain ⟨henc, hne⟩ := encode_decodeCB cb
  exact ⟨decodeCB cb, decode_cb cb rest, hne, henc⟩

end Sys2Proof
end

section
/-! A Step at 0xCB (R101) and at an unused byte (R107): what they run, and which operations set the
fault latch. -/

namespace Sys2Proof.Machine

open Sys2Proof

/-! ### The byte 0xCB -/

/-- A Step at 0xCB runs the second byte's row, with pc after both bytes. -/
theorem step_prefix {s : State} (hf : s.fault = none) (hcb : s.read8 s.pc = 0xCB) :
    step s = exec (decodeCB (s.read8 (s.pc + 1))).instr { s with pc := s.pc + 2 } := by
  rw [step_eq_exec s hf, hcb]
  rfl

theorem exec_prefix_CB (s : State) :
    exec .prefix_CB s = exec (decodeCB (s.read8 s.pc)).instr { s with pc := s.pc + 1 } :=
  runCB_eq_exec _ _

/-- The rows of the CB page transfer no control. -/
theorem decodeCB_writesPC (cb : Byte) : (decodeCB cb).writesPC = false := by
  unfold decodeCB
  split <;> rfl

/-- The row of a second byte answers a next state and leaves pc. -/
theorem exec_decodeCB_next (cb : Byte) (s : State) :
    ∃ t, exec (decodeCB cb).instr s = .next t ∧ t.pc = s.pc := by
  obtain ⟨t, ht, -⟩ := exec_effect (decodeCB cb).instr s
  refine ⟨t, ht, run_keeps_pc (decodeCB_writesPC cb) s t ?_⟩
  rw [← exec_instr, ht]

/-- Settles O11: both ways of running a prefixed instruction run the second byte's row. -/
theorem prefixOneInstruction : Obligations.PrefixOneInstruction := by
  refine ⟨fun s hf hcb => ?_, fun s => ?_⟩
  · obtain ⟨t, ht, hpc⟩ := exec_decodeCB_next (s.read8 (s.pc + 1)) { s with pc := s.pc + 2 }
    exact ⟨_, t, decode_cb _ [], (encode_decodeCB _).2, (step_prefix hf hcb).trans ht, ht, hpc⟩
  · obtain ⟨t, ht, -⟩ := exec_decodeCB_next (s.read8 s.pc) { s with pc := s.pc + 1 }
    exact ⟨_, t, decode_cb _ [], (encode_decodeCB _).2, (exec_prefix_CB s).trans ht, ht⟩

/-! ### The unused bytes as rows of the table -/

theorem mem_unusedBytes_iff {b : Byte} : b ∈ unusedBytes ↔ ∃ x : UnusedByte, x.byte = b := by
  constructor
  · have named : unusedBytes = List.map UnusedByte.byte
        [.xD3, .xDB, .xDD, .xE3, .xE4, .xEB, .xEC, .xED, .xF4, .xFC, .xFD] := rfl
    intro hb
    rw [named] at hb
    obtain ⟨x, -, hx⟩ := List.mem_map.mp hb
    exact ⟨x, hx⟩
  · rintro ⟨x, rfl⟩
    cases x <;> decide

theorem encode_illegal (x : UnusedByte) : encode (Form.illegal x).instr = [x.byte] := by cases x <;> rfl

theorem encodedAs_illegal (x : UnusedByte) : EncodedAs (Form.illegal x).instr [x.byte] := by
  refine ⟨encode_illegal x, fun rest => ?_⟩
  have hw : (Form.illegal x).instr.wellFormed = true := by cases x <;> rfl
  rw [← encode_illegal x, decode_encode_append _ rest hw]

theorem decodeForm_unused (x : UnusedByte) (b1 b2 : Byte) : decodeForm x.byte b1 b2 = .illegal x := by
  cases x <;> rfl

theorem decodeCB_ne_illegal (cb : Byte) (x : UnusedByte) : decodeCB cb ≠ .illegal x := by
  unfold decodeCB
  split <;> exact Form.noConfusion

/-- An unused row is read from its own byte alone: that byte is its encoding. -/
theorem byte_of_decodeForm_illegal {b0 b1 b2 : Byte} {x : UnusedByte}
    (h : decodeForm b0 b1 b2 = .illegal x) : x.byte = b0 := by
  by_cases hcb : b0 = 0xCB
  · rw [decodeForm, if_pos hcb] at h
    exact absurd h (decodeCB_ne_illegal b1 x)
  · have henc := encode_decodeForm b0 b1 b2 hcb
    rw [h, encode_illegal] at henc
    rcases instrLength_cases b0 with hl | hl | hl <;> rw [hl] at henc <;> exact (List.cons.inj henc).1

/-- The decoder reads an unused row exactly at that row's byte (R107). -/
theorem decodeBytes_eq_illegal_iff {b0 b1 b2 : Byte} {x : UnusedByte} :
    decodeBytes b0 b1 b2 = (Form.illegal x).instr ↔ x.byte = b0 := by
  constructor
  · intro h
    refine byte_of_decodeForm_illegal (b1 := b1) (b2 := b2) ?_
    rw [← form_instr (decodeForm b0 b1 b2), ← form_instr (.illegal x)]
    exact congrArg Instr.form h
  · rintro rfl
    rw [decodeBytes, decodeForm_unused]

/-! ### The fault latch -/

theorem runCB_keeps_fault (cb : Byte) (s : State) : Leaves (fun t => t.fault = s.fault) (runCB cb s) := by
  unfold runCB
  split
  · exact .next (State.writeOperand_fault _ _ _)
  · exact .next rfl
  · exact .next (State.writeOperand_fault _ _ _)
  · exact .next (State.writeOperand_fault _ _ _)

/-- STOP and the unused bytes alone set the latch (R301). -/
theorem run_keeps_fault {f : Form} (hstop : f ≠ .stop) (hill : ∀ x, f ≠ .illegal x) (s : State) :
    Leaves (fun t => t.fault = s.fault) (Form.run f s) := by
  cases f with
  | stop => exact absurd rfl hstop
  | illegal x => exact absurd rfl (hill x)
  | prefixCB => exact runCB_keeps_fault _ (s.setPC (s.pc + 1))
  | alu op | aluImm op => cases op <;> exact .next rfl
  | inc | dec | rot | res | set => exact .next (State.writeOperand_fault _ _ _)
  | storeA | loadA => exact .next (State.indirectUpdate_fault _ _)
  | ldRpImm | incRp | decRp => exact .next (State.setRp_fault _ _ _)
  | pop => exact .next (State.setRp2_fault _ _ _)
  | jpIf | jrIf | callIf | retIf => exact .ite (.next rfl) rfl
  | _ => exact .next rfl

theorem run_illegal (x : UnusedByte) (s : State) : Form.run (.illegal x) s =
    .next { s with pc := s.pc - 1, fault := some (.illegalOpcode x.byte (s.pc - 1)) } := rfl

/-- Only an unused row latches `IllegalOpcode` in a running state. -/
theorem eq_illegal_of_run_latches {f : Form} {s t : State} {op : Byte} {a : Word}
    (h : Form.run f s = .next t) (hs : s.fault = none)
    (ht : t.fault = some (.illegalOpcode op a)) : ∃ x, f = .illegal x := by
  by_contra hill
  by_cases hstop : f = .stop
  · subst hstop
    obtain rfl := Host.Outcome.next.inj h
    cases ht
  · have hkeep : t.fault = s.fault := run_keeps_fault hstop (fun x hx => hill ⟨x, hx⟩) s t h
    rw [ht, hs] at hkeep
    cases hkeep

/-- A Step at an unused byte latches the byte and its address and changes nothing else (R295, R305). -/
theorem step_unused {s : State} (hf : s.fault = none) (h : s.read8 s.pc ∈ unusedBytes) :
    step s = .next { s with fault := some (.illegalOpcode (s.read8 s.pc) s.pc) } := by
  obtain ⟨x, hx⟩ := mem_unusedBytes_iff.mp h
  have hlen : instrLength x.byte = 1 := by cases x <;> rfl
  have hpc : s.pc + BitVec.ofNat 16 1 - 1 = s.pc := add_sub_cancel_right s.pc 1
  rw [step_eq_run s hf, ← hx, decodeForm_unused, run_illegal, hlen, State.setPC_pc, hpc]
  rfl

/-- Settles O14: the latch names the byte because no other operation sets it so, and the address because
the Step puts pc back. -/
theorem illegalOpcode : Obligations.IllegalOpcode := by
  refine ⟨fun x => ⟨mem_unusedBytes_iff.mpr ⟨x, rfl⟩, encodedAs_illegal x⟩,
    fun x s => by rw [exec_instr, run_illegal], fun s op a hf => ⟨?_, ?_⟩, fun s hf => step_unused hf,
    fun b0 b1 b2 => by simp only [decodeBytes_eq_illegal_iff, mem_unusedBytes_iff]⟩
  · rintro ⟨t, hstep, ht⟩
    have hrun := hstep
    rw [step_eq_run s hf] at hrun
    obtain ⟨x, hform⟩ := eq_illegal_of_run_latches hrun hf ht
    have hmem := mem_unusedBytes_iff.mpr ⟨x, byte_of_decodeForm_illegal hform⟩
    obtain rfl := Host.Outcome.next.inj ((step_unused hf hmem).symm.trans hstep)
    obtain ⟨rfl, rfl⟩ := Fault.illegalOpcode.inj (Option.some.inj ht)
    exact ⟨hmem, rfl, rfl⟩
  · rintro ⟨hmem, rfl, rfl⟩
    exact ⟨_, step_unused hf hmem, rfl⟩

end Sys2Proof.Machine
end

section
/-! The 8-bit loads (40_load8.md): what a load into a register and a store of a byte leave, the encoding
of a row, and the rows. -/

namespace Sys2Proof.Machine

open Sys2Proof

/-! ### The encoding of a row -/

/-- The decoder reads back what the encoder gives. -/
theorem EncodedAs.of_encode {i : Instr} {bytes : List Byte} (hw : i.wellFormed = true)
    (henc : encode i = bytes) : EncodedAs i bytes :=
  ⟨henc, fun rest => henc ▸ decode_encode_append i rest hw⟩

/-- The encoder gives back what the decoder reads. -/
theorem EncodedAs.of_decode {i : Instr} {bytes : List Byte}
    (hdec : ∀ rest, decode (bytes ++ rest) = .ok (i, rest)) : EncodedAs i bytes := by
  have henc : bytes ++ [] = encode i ++ [] := encodeOfDecode _ _ _ (hdec [])
  exact ⟨(List.append_cancel_right henc).symm, hdec⟩

/-- The byte of a row of block 1, by its fields (R103). -/
theorem encodedAs_load (dst src : Operand8) :
    EncodedAs (Form.ofLoad dst src).instr [byteOfFields 1 dst.index src.index] :=
  .of_decode (decode_load dst src)

theorem encodedAs_ldRegImm (r : Reg8) (n : Byte) :
    EncodedAs (Form.ldRegImm r n).instr [BitVec.ofNat 8 (0x06 + 8 * r.index), n] := by
  cases r <;> exact .of_encode rfl rfl

/-! ### Loads into a register -/

theorem RegsKeptBut.trans {xs ys : List Reg8} {s t u : State} (hst : RegsKeptBut xs s t)
    (htu : RegsKeptBut ys t u) : RegsKeptBut (xs ++ ys) s u := by
  intro r hr
  obtain ⟨hx, hy⟩ := not_or.mp (mt List.mem_append.mpr hr)
  exact (htu r hy).trans (hst r hx)

/-- An instruction that only sets a register loads it and keeps everything else. -/
theorem loads_of_exec {i : Instr} {s : State} (r : Reg8) {v : Byte}
    (h : exec i s = .next (s.setReg r v)) :
    ∃ t, exec i s = .next t ∧ t.getReg r = v ∧ RegsKeptBut [r] s t ∧ FlagsKept s t ∧ SPKept s t ∧
      PCKept s t ∧ MemoryKept s t ∧ FaultKept s t :=
  ⟨_, h, by simp, .of_set rfl, rfl, rfl, rfl, .of_eq rfl, rfl⟩

/-- The loads of A that also move HL. -/
theorem loadsA_movesHL_of_exec {i : Instr} {s : State} {v : Byte} {w : Word}
    (h : exec i s = .next ((s.setReg .a v).setHL w)) :
    ∃ t, exec i s = .next t ∧ t.regs.a = v ∧ t.hl = w ∧ RegsKeptBut [.a, .h, .l] s t ∧ FlagsKept s t ∧
      SPKept s t ∧ PCKept s t ∧ MemoryKept s t ∧ FaultKept s t := by
  have loaded : RegsKeptBut [.a] s (s.setReg .a v) := .of_set rfl
  have moved : RegsKeptBut [.h, .l] (s.setReg .a v) ((s.setReg .a v).setHL w) := .of_setHL rfl
  exact ⟨_, h, rfl, Regs.hl_setHL _ w, loaded.trans moved, rfl, rfl, rfl, .of_eq rfl, rfl⟩

/-! ### Stores of a byte -/

/-- An instruction that only writes a byte to memory stores it and keeps everything else. -/
theorem stores_of_exec {i : Instr} {s : State} {x : Word} {v : Byte}
    (h : exec i s = .next (s.write8 x v)) :
    ∃ t, exec i s = .next t ∧ StoredByte x v s t ∧ RegsKept s t ∧ FlagsKept s t ∧ SPKept s t ∧
      PCKept s t ∧ FaultKept s t :=
  ⟨_, h, .of_eq rfl, .of_eq rfl, rfl, rfl, rfl, rfl⟩

/-- The stores that also move HL. -/
theorem stores_movesHL_of_exec {i : Instr} {s : State} {x w : Word} {v : Byte}
    (h : exec i s = .next ((s.write8 x v).setHL w)) :
    ∃ t, exec i s = .next t ∧ StoredByte x v s t ∧ t.hl = w ∧ RegsKeptBut [.h, .l] s t ∧
      FlagsKept s t ∧ SPKept s t ∧ PCKept s t ∧ FaultKept s t :=
  ⟨_, h, .of_eq rfl, Regs.hl_setHL _ w, .of_setHL rfl, rfl, rfl, rfl, rfl⟩

/-! ### The rows -/

/-- Settles O32: a row of block 1 with a register on both sides, which sets the destination. -/
theorem loadRegReg : Obligations.LoadRegReg := by
  intro dst src s
  exact ⟨encodedAs_load (.reg dst) (.reg src), loads_of_exec dst (exec_instr (.ldRegReg dst src) s)⟩

/-- Settles O33: the rows of block 1 with the byte at HL, index 6, on one side. -/
theorem loadRegHL : Obligations.LoadRegHL := by
  intro r s
  have hbyte : BitVec.ofNat 8 (0x46 + 8 * r.index) = byteOfFields 1 r.index 6 :=
    congrArg (BitVec.ofNat 8) (by omega)
  rw [hbyte]
  exact ⟨⟨encodedAs_load (.reg r) .atHL, loads_of_exec r (exec_instr (.ldRegHL r) s)⟩,
    encodedAs_load .atHL (.reg r), stores_of_exec (exec_instr (.ldHLReg r) s)⟩

/-- Settles O34: the rows set the register, or write the byte at HL, to the immediate. -/
theorem loadImmediate : Obligations.LoadImmediate := by
  intro n s
  exact ⟨fun r => ⟨encodedAs_ldRegImm r n, loads_of_exec r (exec_instr (.ldRegImm r n) s)⟩,
    .of_encode rfl rfl, stores_of_exec (exec_instr (.ldHLImm n) s)⟩

/-- Settles O35: each row writes A at its pair; the HL forms then move HL. -/
theorem storeAIndirect : Obligations.StoreAIndirect := by
  intro s
  exact ⟨⟨.of_encode rfl rfl, stores_of_exec (exec_instr (.storeA .bc) s)⟩,
    ⟨.of_encode rfl rfl, stores_of_exec (exec_instr (.storeA .de) s)⟩,
    ⟨.of_encode rfl rfl, stores_movesHL_of_exec (exec_instr (.storeA .hlInc) s)⟩,
    ⟨.of_encode rfl rfl, stores_movesHL_of_exec (exec_instr (.storeA .hlDec) s)⟩⟩

/-- Settles O36: each row sets A to the byte at its pair; the HL forms then move HL. -/
theorem loadAIndirect : Obligations.LoadAIndirect := by
  intro s
  exact ⟨⟨.of_encode rfl rfl, loads_of_exec .a (exec_instr (.loadA .bc) s)⟩,
    ⟨.of_encode rfl rfl, loads_of_exec .a (exec_instr (.loadA .de) s)⟩,
    ⟨.of_encode rfl rfl, loadsA_movesHL_of_exec (exec_instr (.loadA .hlInc) s)⟩,
    ⟨.of_encode rfl rfl, loadsA_movesHL_of_exec (exec_instr (.loadA .hlDec) s)⟩⟩

/-- Settles O37: the address of the I/O-page rows is the sum `0xFF00 + n` (`ffPage_eq_ofNat`). -/
theorem loadIoPage : Obligations.LoadIoPage := by
  intro n s
  simp only [← ffPage_eq_ofNat]
  exact ⟨⟨.of_encode rfl rfl, stores_of_exec (exec_instr (.ldhStore n) s)⟩,
    ⟨.of_encode rfl rfl, loads_of_exec .a (exec_instr (.ldhLoad n) s)⟩,
    ⟨.of_encode rfl rfl, stores_of_exec (exec_instr .ldCStore s)⟩,
    ⟨.of_encode rfl rfl, loads_of_exec .a (exec_instr .ldCLoad s)⟩⟩

/-- Settles O38: the rows access the byte at the immediate; the decoder puts its halves together. -/
theorem loadAbsolute : Obligations.LoadAbsolute := by
  intro nn s
  exact ⟨⟨.of_encode rfl rfl, stores_of_exec (exec_instr (.ldAbsStore nn) s)⟩,
    .of_encode rfl rfl, loads_of_exec .a (exec_instr (.ldAbsLoad nn) s)⟩

end Sys2Proof.Machine
end

section
/-! The 16-bit loads (41_load16.md) and `ADD SP,e` (R216): what a write of a pair leaves, the sum of SP
and a signed offset, and the rows. -/

namespace Sys2Proof.Machine

open Sys2Proof

/-! ### Writes of a pair -/

@[simp] theorem State.setRp_regs_a (s : State) (p : Rp) (v : Word) :
    (s.setRp p v).regs.a = s.regs.a := by cases p <;> rfl

theorem State.getRp_setRp_same (s : State) (p : Rp) (v : Word) : (s.setRp p v).getRp p = v := by
  rw [State.getRp_setRp, if_pos rfl]

theorem State.getRp_setRp_of_ne (s : State) {p q : Rp} (v : Word) (h : q ≠ p) :
    (s.setRp p v).getRp q = s.getRp q := by
  rw [State.getRp_setRp, if_neg h]

/-- An instruction that only sets a pair loads it and keeps everything else. -/
theorem loadsPair_of_exec {i : Instr} {s : State} (p : Rp) {v : Word}
    (h : exec i s = .next (s.setRp p v)) :
    ∃ t, exec i s = .next t ∧ t.getRp p = v ∧ (∀ q, q ≠ p → t.getRp q = s.getRp q) ∧
      t.regs.a = s.regs.a ∧ FlagsKept s t ∧ PCKept s t ∧ MemoryKept s t ∧ FaultKept s t :=
  ⟨_, h, s.getRp_setRp_same p v, fun _ hq => s.getRp_setRp_of_ne v hq, s.setRp_regs_a p v,
    s.setRp_f p v, s.setRp_pc p v, .of_eq (s.setRp_bus p v), s.setRp_fault p v⟩

theorem encodedAs_ldRpImm (p : Rp) (nn : Word) :
    EncodedAs (Form.ldRpImm p nn).instr
      [BitVec.ofNat 8 (0x01 + 16 * p.index), loByte nn, hiByte nn] := by
  cases p <;> exact .of_encode rfl rfl

/-! ### SP and a signed offset -/

theorem addsp16_fst_toNat (sp : Word) (e : Byte) :
    ((addsp16 sp e).1.toNat : Int) = ((sp.toNat : Int) + e.toInt) % 65536 :=
  add_signExtend16_toNat sp e

/-- The masks of the carry tests are remainders. -/
theorem addsp16_snd (sp : Word) (e : Byte) : (addsp16 sp e).2 =
    { z := false, n := false, h := decide (sp.toNat % 16 + e.toNat % 16 > 0x0F),
      c := decide (sp.toNat % 256 + e.toNat > 0xFF) } := by
  simp only [addsp16, toNat_and_000F, toNat_and_00FF, lowNibble_eq_mod]

/-! ### The rows -/

/-- Settles O39: the rows set a pair, write SP to memory as a word, or set SP. -/
theorem loadSixteen : Obligations.LoadSixteen := by
  intro nn s
  exact ⟨fun p => ⟨encodedAs_ldRpImm p nn, loadsPair_of_exec p (exec_instr (.ldRpImm p nn) s)⟩,
    ⟨.of_encode rfl rfl, _, exec_instr (.ldAbsSP nn) s, .of_eq rfl, .of_eq rfl, rfl, rfl, rfl, rfl⟩,
    ⟨.of_encode rfl rfl, _, exec_instr .ldSPHL s, rfl, .of_eq rfl, rfl, rfl, .of_eq rfl, rfl⟩⟩

/-- Settles O40: both rows take their result and their flags from `addsp16`. -/
theorem spOffset : Obligations.SPOffset := by
  intro e s
  have hsum := addsp16_fst_toNat s.sp e
  have hflags := addsp16_snd s.sp e
  exact ⟨⟨.of_encode rfl rfl, _, exec_instr (.ldHLSP e) s, by simpa using hsum, .of_setHL rfl, hflags,
      rfl, rfl, .of_eq rfl, rfl⟩,
    ⟨.of_encode rfl rfl, _, exec_instr (.addSP e) s, hsum, .of_eq rfl, hflags, rfl, .of_eq rfl, rfl⟩⟩

end Sys2Proof.Machine
end

section
/-! The 8-bit arithmetic and logic (42_alu8.md): what a result in A and the flags, in the flags alone, or
in an operand and the flags leaves; the sums, differences and corrections as numbers; and the rows. -/

namespace Sys2Proof.Machine

open Sys2Proof

/-! ### Results with flags -/

/-- An instruction that only sets A and the flags keeps everything else. -/
theorem setsA_of_exec {i : Instr} {s : State} {v : Byte} {g : Flags}
    (h : exec i s = .next ((s.setReg .a v).setFlags g)) :
    ∃ t, exec i s = .next t ∧ t.regs.a = v ∧ t.f = g ∧ RegsKeptBut [.a] s t ∧ SPKept s t ∧
      PCKept s t ∧ MemoryKept s t ∧ FaultKept s t :=
  ⟨_, h, rfl, rfl, .of_set rfl, rfl, rfl, .of_eq rfl, rfl⟩

/-- An instruction that only sets the flags keeps everything else. -/
theorem setsFlags_of_exec {i : Instr} {s : State} {g : Flags} (h : exec i s = .next (s.setFlags g)) :
    ∃ t, exec i s = .next t ∧ t.f = g ∧ RegsKept s t ∧ SPKept s t ∧ PCKept s t ∧ MemoryKept s t ∧
      FaultKept s t :=
  ⟨_, h, rfl, .of_eq rfl, rfl, rfl, .of_eq rfl, rfl⟩

/-- An instruction that only writes an operand and the flags keeps everything else. -/
theorem setsOperand_of_exec {i : Instr} {s : State} {o : Operand8} {v : Byte} {g : Flags}
    (h : exec i s = .next ((s.writeOperand o v).setFlags g)) :
    ∃ t, exec i s = .next t ∧ OperandGets o v s t ∧ t.f = g ∧ SPKept s t ∧ PCKept s t ∧
      FaultKept s t :=
  ⟨_, h, .of_eq rfl rfl, rfl, s.writeOperand_sp o v, s.writeOperand_pc o v, s.writeOperand_fault o v⟩

/-! ### Sums and differences as numbers -/

theorem eq_zero_iff_toNat (v : Byte) : v = 0 ↔ v.toNat = 0 := by
  rw [← BitVec.toNat_inj]
  rfl

theorem add8_eq (a b : Byte) (cin : Bool) : add8 a b cin =
    (BitVec.ofNat 8 (a.toNat + b.toNat + cin.toNat),
      { z := decide ((a.toNat + b.toNat + cin.toNat) % 256 = 0), n := false,
        h := decide (a.toNat % 16 + b.toNat % 16 + cin.toNat > 0x0F),
        c := decide (a.toNat + b.toNat + cin.toNat > 0xFF) }) := by
  simp only [add8, lowNibble_eq_mod, beq_eq_decide, eq_zero_iff_toNat, BitVec.toNat_ofNat]

/-- The difference itself is `sub_sub_toNat`. -/
theorem sub8_snd (a b : Byte) (bin : Bool) : (sub8 a b bin).2 =
    { z := decide (((a.toNat : Int) - b.toNat - bin.toNat) % 256 = 0), n := true,
      h := decide (a.toNat % 16 < b.toNat % 16 + bin.toNat),
      c := decide (a.toNat < b.toNat + bin.toNat) } := by
  simp only [sub8, lowNibble_eq_mod, beq_eq_decide, eq_zero_iff_toNat, ← sub_sub_toNat,
    Int.natCast_eq_zero]

theorem addedToA_of_exec {i : Instr} {s : State} {v : Byte} (cin : Bool)
    (h : exec i s = .next ((s.setReg .a (add8 s.regs.a v cin).1).setFlags (add8 s.regs.a v cin).2)) :
    ∃ t, exec i s = .next t ∧ AddedToA v cin.toNat s t := by
  rw [add8_eq] at h
  exact setsA_of_exec h

theorem subtractedFromA_of_exec {i : Instr} {s : State} {v : Byte} (bin : Bool)
    (h : exec i s = .next ((s.setReg .a (sub8 s.regs.a v bin).1).setFlags (sub8 s.regs.a v bin).2)) :
    ∃ t, exec i s = .next t ∧ SubtractedFromA v bin.toNat s t := by
  obtain ⟨t, ht, ha, hf, hframe⟩ := setsA_of_exec h
  refine ⟨t, ht, ?_, hf.trans (sub8_snd _ _ _), hframe⟩
  rw [ha]
  exact sub_sub_toNat _ _ _

theorem comparedWithA_of_exec {i : Instr} {s : State} {v : Byte}
    (h : exec i s = .next (s.setFlags (sub8 s.regs.a v false).2)) :
    ∃ t, exec i s = .next t ∧ ComparedWithA v s t := by
  rw [sub8_snd] at h
  exact setsFlags_of_exec h

/-! ### The accumulator operations -/

/-- The byte of a row of block 2, by its fields (R104). -/
theorem encodedAs_alu (op : AluOp) (o : Operand8) :
    EncodedAs (Form.alu op o).instr [byteOfFields 2 op.index o.index] :=
  .of_decode (decode_alu op o)

/-- Settles O41: both are `add8`, with no carry in or with Cf. -/
theorem addAndAdc : Obligations.AddAndAdc := by
  refine ⟨fun o s => ⟨⟨encodedAs_alu .add o, ?_⟩, encodedAs_alu .adc o, ?_⟩,
    fun n s => ⟨⟨.of_encode rfl rfl, ?_⟩, .of_encode rfl rfl, ?_⟩⟩
  · exact addedToA_of_exec false (exec_instr (.alu .add o) s)
  · exact addedToA_of_exec s.f.c (exec_instr (.alu .adc o) s)
  · exact addedToA_of_exec false (exec_instr (.aluImm .add n) s)
  · exact addedToA_of_exec s.f.c (exec_instr (.aluImm .adc n) s)

/-- Settles O42: all three are `sub8`, with no borrow in or with Cf; CP keeps only its flags. -/
theorem subSbcCp : Obligations.SubSbcCp := by
  refine ⟨fun o s => ⟨⟨encodedAs_alu .sub o, ?_⟩, ⟨encodedAs_alu .sbc o, ?_⟩, encodedAs_alu .cp o, ?_⟩,
    fun n s => ⟨⟨.of_encode rfl rfl, ?_⟩, ⟨.of_encode rfl rfl, ?_⟩, .of_encode rfl rfl, ?_⟩⟩
  · exact subtractedFromA_of_exec false (exec_instr (.alu .sub o) s)
  · exact subtractedFromA_of_exec s.f.c (exec_instr (.alu .sbc o) s)
  · exact comparedWithA_of_exec (exec_instr (.alu .cp o) s)
  · exact subtractedFromA_of_exec false (exec_instr (.aluImm .sub n) s)
  · exact subtractedFromA_of_exec s.f.c (exec_instr (.aluImm .sbc n) s)
  · exact comparedWithA_of_exec (exec_instr (.aluImm .cp n) s)

/-- Settles O43: the model's results and flags are those of the rules as they stand. -/
theorem andXorOr : Obligations.AndXorOr := by
  refine ⟨fun o s => ⟨⟨encodedAs_alu .and o, ?_⟩, ⟨encodedAs_alu .xor o, ?_⟩, encodedAs_alu .or o, ?_⟩,
    fun n s => ⟨⟨.of_encode rfl rfl, ?_⟩, ⟨.of_encode rfl rfl, ?_⟩, .of_encode rfl rfl, ?_⟩⟩
  · exact setsA_of_exec (exec_instr (.alu .and o) s)
  · exact setsA_of_exec (exec_instr (.alu .xor o) s)
  · exact setsA_of_exec (exec_instr (.alu .or o) s)
  · exact setsA_of_exec (exec_instr (.aluImm .and n) s)
  · exact setsA_of_exec (exec_instr (.aluImm .xor n) s)
  · exact setsA_of_exec (exec_instr (.aluImm .or n) s)

/-! ### INC and DEC -/

theorem encodedAs_inc (o : Operand8) :
    EncodedAs (Form.inc o).instr [BitVec.ofNat 8 (0x04 + 8 * o.index)] := by
  cases o with
  | reg r => cases r <;> exact .of_encode rfl rfl
  | atHL => exact .of_encode rfl rfl

theorem encodedAs_dec (o : Operand8) :
    EncodedAs (Form.dec o).instr [BitVec.ofNat 8 (0x05 + 8 * o.index)] := by
  cases o with
  | reg r => cases r <;> exact .of_encode rfl rfl
  | atHL => exact .of_encode rfl rfl

/-- A carry out of the low nibble comes from 0x0F alone. -/
theorem incResult_eq (v : Byte) (f : Flags) : incResult v f =
    (v + 1, { z := decide (v + 1 = 0), n := false, h := decide (v.toNat % 16 = 0x0F), c := f.c }) := by
  have hres : BitVec.ofNat 8 (v.toNat + 1) = v + 1 := BitVec.eq_of_toNat_eq (by simp)
  have hcarry : v.toNat % 16 + 1 > 0x0F ↔ v.toNat % 16 = 0x0F := by omega
  simp [incResult, add8, lowNibble_eq_mod, hres, hcarry, beq_eq_decide]

/-- A borrow into the low nibble comes from 0x00 alone. -/
theorem decResult_eq (v : Byte) (f : Flags) : decResult v f =
    (v - 1, { z := decide (v - 1 = 0), n := true, h := decide (v.toNat % 16 = 0x00), c := f.c }) := by
  simp [decResult, sub8, lowNibble_eq_mod, beq_eq_decide]

theorem exec_inc (o : Operand8) (s : State) : exec (Form.inc o).instr s =
    .next ((s.writeOperand o (s.readOperand o + 1)).setFlags
      { z := decide (s.readOperand o + 1 = 0), n := false,
        h := decide ((s.readOperand o).toNat % 16 = 0x0F), c := s.f.c }) := by
  simp only [exec_instr, Form.run, incOp, incResult_eq]

theorem exec_dec (o : Operand8) (s : State) : exec (Form.dec o).instr s =
    .next ((s.writeOperand o (s.readOperand o - 1)).setFlags
      { z := decide (s.readOperand o - 1 = 0), n := true,
        h := decide ((s.readOperand o).toNat % 16 = 0x00), c := s.f.c }) := by
  simp only [exec_instr, Form.run, decOp, decResult_eq]

/-- Settles O44: the rows write the operand and the flags. -/
theorem incAndDec : Obligations.IncAndDec := by
  intro o s
  exact ⟨⟨encodedAs_inc o, setsOperand_of_exec (exec_inc o s)⟩,
    encodedAs_dec o, setsOperand_of_exec (exec_dec o s)⟩

/-! ### CPL, SCF and CCF -/

/-- Settles O47: a complement is an exclusive or with 0xFF. -/
theorem cplScfCcf : Obligations.CplScfCcf := by
  intro s
  have hxor : s.regs.a ^^^ 0xFF = ~~~s.regs.a := BitVec.xor_allOnes
  rw [hxor]
  exact ⟨⟨.of_encode rfl rfl, setsA_of_exec (exec_instr .cpl s)⟩,
    ⟨.of_encode rfl rfl, setsFlags_of_exec (exec_instr .scf s)⟩,
    ⟨.of_encode rfl rfl, setsFlags_of_exec (exec_instr .ccf s)⟩⟩

/-! ### DAA -/

theorem daaResult_z (a : Byte) (f : Flags) :
    (daaResult a f).2.z = decide ((daaResult a f).1 = 0) := by
  unfold daaResult
  split <;> rfl

/-- The additive path of R203. -/
theorem daaResult_of_add {a : Byte} {f : Flags} (hn : f.n = false) :
    (daaResult a f).1 = BitVec.ofNat 8 (a.toNat +
      (if f.c = true ∨ a.toNat > 0x99 then 0x60 else 0) +
      (if f.h = true ∨ a.toNat % 16 > 0x09 then 0x06 else 0)) ∧
    (daaResult a f).2.c = decide (f.c = true ∨ a.toNat > 0x99) := by
  simp only [daaResult, if_pos hn, lowNibble_eq_mod, Bool.or_eq_true, decide_eq_true_eq]
  refine ⟨?_, by simp⟩
  apply BitVec.eq_of_toNat_eq
  split <;> split <;> simp

/-- The subtractive path of R203. -/
theorem daaResult_of_sub {a : Byte} {f : Flags} (hn : f.n = true) :
    ((daaResult a f).1.toNat : Int) = ((a.toNat : Int) - (if f.c = true then 0x60 else 0) -
      (if f.h = true then 0x06 else 0)) % 256 ∧
    (daaResult a f).2.c = f.c := by
  have := a.isLt
  simp only [daaResult, hn, Bool.true_eq_false, if_false, and_true]
  split <;> split <;> simp [BitVec.toNat_sub] <;> omega

theorem exec_daa (s : State) : exec .daa s =
    .next ((s.setReg .a (daaResult s.regs.a s.f).1).setFlags (daaResult s.regs.a s.f).2) :=
  exec_instr .daa s

/-- Settles O45: the path is that of N. -/
theorem decimalAdjust : Obligations.DecimalAdjust := by
  refine ⟨.of_encode rfl rfl, fun s => ?_⟩
  obtain ⟨t, ht, ha, hf, hframe⟩ := setsA_of_exec (exec_daa s)
  obtain ⟨hn, hh⟩ := daaResult_flags s.regs.a s.f
  refine ⟨t, ht, ?_⟩
  rw [ha, hf]
  exact ⟨daaResult_of_add, daaResult_of_sub, daaResult_z _ _, hn, hh, hframe⟩

/-! ### DAA after an addition or a subtraction of packed decimal bytes (R203, first sentence) -/

section

variable {x1 x0 y1 y0 c : Nat} (hx1 : x1 < 10) (hx0 : x0 < 10) (hy1 : y1 < 10) (hy0 : y0 < 10)
  (hc : c ≤ 1)

include hx0 hy0 hc

/-- The low correction is made exactly when the low digits carry: with a sum of 16 or more Hf tells, and
with one of 10 to 15 the low nibble. -/
theorem low_correction_iff_carry :
    (x0 + y0 + c > 0x0F ∨ (16 * x1 + x0 + (16 * y1 + y0) + c) % 256 % 16 > 0x09) ↔
      x0 + y0 + c ≥ 10 := by
  omega

/-- A packed decimal byte compares as the number it stands for. -/
theorem packed_borrow_iff :
    16 * x1 + x0 < 16 * y1 + y0 + c ↔ 10 * x1 + x0 < 10 * y1 + y0 + c := by
  omega

include hx1 hy1

/-- The high correction is made exactly when the sum has a carry of 100. -/
theorem high_correction_iff_carry :
    (16 * x1 + x0 + (16 * y1 + y0) + c > 0xFF ∨
      (16 * x1 + x0 + (16 * y1 + y0) + c) % 256 > 0x99) ↔
      10 * x1 + x0 + (10 * y1 + y0) + c ≥ 100 := by
  omega

/-- A carry out of the low digit is worth 16 in the packed sum and 10 in the decimal one, so it wants
0x06, and one out of the high digit 0x60. -/
theorem packed_sum_corrected :
    ((16 * x1 + x0 + (16 * y1 + y0) + c) % 256 +
      (if 10 * x1 + x0 + (10 * y1 + y0) + c ≥ 100 then 0x60 else 0) +
      (if x0 + y0 + c ≥ 10 then 0x06 else 0)) % 256 =
    16 * ((10 * x1 + x0 + (10 * y1 + y0) + c) / 10 % 10) +
      (10 * x1 + x0 + (10 * y1 + y0) + c) % 10 := by
  split <;> split <;> omega

/-- The same for the borrows of the two digits. -/
theorem packed_difference_corrected :
    (((16 * x1 + x0 : Nat) - (16 * y1 + y0 : Nat) - c : Int) % 256 -
      (if 10 * x1 + x0 < 10 * y1 + y0 + c then 0x60 else 0) -
      (if x0 < y0 + c then 0x06 else 0)) % 256 =
    (16 * ((100 + (10 * x1 + x0) - (10 * y1 + y0) - c) / 10 % 10) +
      (100 + (10 * x1 + x0) - (10 * y1 + y0) - c) % 10 : Nat) := by
  have hlow : (100 + (10 * x1 + x0) - (10 * y1 + y0) - c) % 10 =
      if x0 < y0 + c then 10 + x0 - y0 - c else x0 - y0 - c := by split <;> omega
  have hhigh : (100 + (10 * x1 + x0) - (10 * y1 + y0) - c) / 10 =
      if x0 < y0 + c then 9 + x1 - y1 else 10 + x1 - y1 := by split <;> omega
  rw [hlow, hhigh]
  split <;> split <;> omega

end

section

variable {x1 x0 y1 y0 : Nat} {v : Byte} {cf : Bool} {s t : State} (hx1 : x1 < 10) (hx0 : x0 < 10)
  (hy1 : y1 < 10) (hy0 : y0 < 10) (ha : s.regs.a.toNat = 16 * x1 + x0) (hv : v.toNat = 16 * y1 + y0)

include hx1 hx0 hy1 hy0 ha hv

theorem daaResult_after_add (h : AddedToA v cf.toNat s t) :
    (daaResult t.regs.a t.f).1.toNat =
      16 * ((10 * x1 + x0 + (10 * y1 + y0) + cf.toNat) / 10 % 10) +
        (10 * x1 + x0 + (10 * y1 + y0) + cf.toNat) % 10 ∧
    (daaResult t.regs.a t.f).2.c = decide (10 * x1 + x0 + (10 * y1 + y0) + cf.toNat ≥ 100) := by
  obtain ⟨hta, htf, -⟩ := h
  have hc := cf.toNat_le
  have hxl : (16 * x1 + x0) % 16 = x0 := by omega
  have hyl : (16 * y1 + y0) % 16 = y0 := by omega
  obtain ⟨hres, hcarry⟩ := daaResult_of_add (a := t.regs.a) (f := t.f) (by rw [htf])
  rw [hres, hcarry, hta, htf]
  simp only [BitVec.toNat_ofNat, Nat.reducePow, decide_eq_true_eq, ha, hv, hxl, hyl,
    low_correction_iff_carry hx0 hy0 hc, high_correction_iff_carry hx1 hx0 hy1 hy0 hc, and_true]
  exact packed_sum_corrected hx1 hx0 hy1 hy0 hc

theorem daaResult_after_sub (h : SubtractedFromA v cf.toNat s t) :
    (daaResult t.regs.a t.f).1.toNat =
      16 * ((100 + (10 * x1 + x0) - (10 * y1 + y0) - cf.toNat) / 10 % 10) +
        (100 + (10 * x1 + x0) - (10 * y1 + y0) - cf.toNat) % 10 ∧
    (daaResult t.regs.a t.f).2.c = decide (10 * x1 + x0 < 10 * y1 + y0 + cf.toNat) := by
  obtain ⟨hta, htf, -⟩ := h
  have hc := cf.toNat_le
  have hxl : (16 * x1 + x0) % 16 = x0 := by omega
  have hyl : (16 * y1 + y0) % 16 = y0 := by omega
  obtain ⟨hres, hcarry⟩ := daaResult_of_sub (a := t.regs.a) (f := t.f) (by rw [htf])
  rw [← Int.natCast_inj, hres, hcarry, hta, htf]
  simp only [decide_eq_true_eq, ha, hv, hxl, hyl, packed_borrow_iff hx0 hy0 hc, and_true]
  exact packed_difference_corrected hx1 hx0 hy1 hy0 hc

end

/-- Settles O46: `ADC A,B` and `SBC A,B` leave the packed sum and difference, which DAA corrects. -/
theorem decimalArithmetic : Obligations.DecimalArithmetic := by
  intro x1 x0 y1 y0 s hx1 hx0 hy1 hy0 ha hb
  obtain ⟨t, ht, hadd⟩ := addedToA_of_exec s.f.c (exec_instr (.alu .adc (.reg .b)) s)
  obtain ⟨u, hu, hsub⟩ := subtractedFromA_of_exec s.f.c (exec_instr (.alu .sbc (.reg .b)) s)
  exact ⟨⟨t, _, ht, exec_daa t, daaResult_after_add hx1 hx0 hy1 hy0 ha hb hadd⟩,
    u, _, hu, exec_daa u, daaResult_after_sub hx1 hx0 hy1 hy0 ha hb hsub⟩

end Sys2Proof.Machine
end

section
/-! The 16-bit arithmetic (43_alu16.md): the sum of `ADD HL,rr` and the successor and predecessor of a
pair as numbers, and the rows. -/

namespace Sys2Proof.Machine

open Sys2Proof

/-! ### Sums and differences of words as numbers -/

theorem addHL16_fst_toNat (a b : Word) (f : Flags) :
    (addHL16 a b f).1.toNat = (a.toNat + b.toNat) % 65536 :=
  BitVec.toNat_add a b

/-- The masks of the half-carry test are remainders. -/
theorem addHL16_snd (a b : Word) (f : Flags) : (addHL16 a b f).2 =
    { z := f.z, n := false, h := decide (a.toNat % 4096 + b.toNat % 4096 > 0x0FFF),
      c := decide (a.toNat + b.toNat > 0xFFFF) } := by
  simp only [addHL16, toNat_and_0FFF]

theorem sub_one_toNat (v : Word) : ((v - 1).toNat : Int) = ((v.toNat : Int) - 1) % 65536 := by
  have hlt := v.isLt
  have hsub : (v - 1).toNat = (65536 - 1 + v.toNat) % 65536 := BitVec.toNat_sub v 1
  omega

/-! ### The rows -/

theorem encodedAs_addHL (p : Rp) :
    EncodedAs (Form.addHL p).instr [BitVec.ofNat 8 (0x09 + 16 * p.index)] := by
  cases p <;> exact .of_encode rfl rfl

theorem encodedAs_incRp (p : Rp) :
    EncodedAs (Form.incRp p).instr [BitVec.ofNat 8 (0x03 + 16 * p.index)] := by
  cases p <;> exact .of_encode rfl rfl

theorem encodedAs_decRp (p : Rp) :
    EncodedAs (Form.decRp p).instr [BitVec.ofNat 8 (0x0B + 16 * p.index)] := by
  cases p <;> exact .of_encode rfl rfl

/-- Settles O48: the row sets HL and the flags to those of `addHL16`. -/
theorem addHL : Obligations.AddHL := by
  intro p s
  have hsum := addHL16_fst_toNat s.hl (s.getRp p) s.f
  have hflags := addHL16_snd s.hl (s.getRp p) s.f
  exact ⟨encodedAs_addHL p, _, exec_instr (.addHL p) s, by simpa using hsum, .of_setHL rfl, hflags,
    rfl, rfl, .of_eq rfl, rfl⟩

/-- Settles O49: each row only sets its pair, to the next word or the one before. -/
theorem incDecPair : Obligations.IncDecPair := by
  intro p s
  obtain ⟨t, ht, hinc, hkeptInc⟩ := loadsPair_of_exec p (exec_instr (.incRp p) s)
  obtain ⟨u, hu, hdec, hkeptDec⟩ := loadsPair_of_exec p (exec_instr (.decRp p) s)
  have hsucc : (t.getRp p).toNat = ((s.getRp p).toNat + 1) % 65536 := by
    rw [hinc]
    exact BitVec.toNat_add (s.getRp p) 1
  have hpred : ((u.getRp p).toNat : Int) = (((s.getRp p).toNat : Int) - 1) % 65536 := by
    rw [hdec]
    exact sub_one_toNat (s.getRp p)
  exact ⟨⟨encodedAs_incRp p, t, ht, hsucc, hkeptInc⟩, encodedAs_decRp p, u, hu, hpred, hkeptDec⟩

end Sys2Proof.Machine
end

section
/-! Rotates, shifts and bit operations (44_bitops.md): the encoding of a row of the CB page, what a
rotate leaves in A or in its operand, the bits of a byte after RES and SET, and the rows. -/

namespace Sys2Proof.Machine

open Sys2Proof

/-! ### The encoding of a row of the CB page (R106) -/

theorem EncodedAs.of_decodeCB {cb : Byte} {f : Form} (h : decodeCB cb = f) :
    EncodedAs f.instr [0xCB, cb] :=
  .of_decode (decode_cb_of_eq h)

theorem encodedAs_rot (op : RotOp) (o : Operand8) :
    EncodedAs (Form.rot op o).instr [0xCB, BitVec.ofNat 8 (8 * op.index + o.index)] := by
  rw [← byteOfFields_zero]
  exact .of_decodeCB (decodeCB_rot op o)

/-- The selector of RLC is 0, so its second byte is the index of the operand. -/
theorem encodedAs_rlc (o : Operand8) :
    EncodedAs (Form.rot .rlc o).instr [0xCB, BitVec.ofNat 8 o.index] := by
  have h := encodedAs_rot .rlc o
  rwa [RotOp.index, Nat.mul_zero, Nat.zero_add] at h

/-! ### Rotates and shifts -/

/-- An accumulator rotate sets A to its result and keeps only the carry among the flags. -/
theorem rotatedA_of_accRotResult (k : AccRot) {s : State} {res : Nat} {c : Bool}
    (h : accRotResult k s.regs.a s.f.c = (BitVec.ofNat 8 res, c)) :
    ∃ t, exec (Form.rotA k).instr s = .next t ∧ RotatedA res c s t := by
  have hexec := exec_instr (.rotA k) s
  simp only [Form.run, rotAcc, h] at hexec
  exact setsA_of_exec hexec

/-- A rotate or shift of the CB page writes its result to the operand and takes Z from it. -/
theorem rotatedOperand_of_rotResult (op : RotOp) {o : Operand8} {s : State} {res : Nat} {c : Bool}
    (h : rotResult op (s.readOperand o) s.f.c = (BitVec.ofNat 8 res, c)) :
    ∃ t, exec (Form.rot op o).instr s = .next t ∧ RotatedOperand o res c s t := by
  have hexec := exec_instr (.rot op o) s
  simp only [Form.run, rotShift, h, beq_eq_decide] at hexec
  exact setsOperand_of_exec hexec

/-- Settles O50: each rotate as a number is the `_eq` lemma of its primitive. -/
theorem rotateAccumulator : Obligations.RotateAccumulator := by
  intro s
  exact ⟨⟨.of_encode rfl rfl, rotatedA_of_accRotResult .rlca (rlc8_eq _)⟩,
    ⟨.of_encode rfl rfl, rotatedA_of_accRotResult .rrca (rrc8_eq _)⟩,
    ⟨.of_encode rfl rfl, rotatedA_of_accRotResult .rla (rl8_eq _ _)⟩,
    ⟨.of_encode rfl rfl, rotatedA_of_accRotResult .rra (rr8_eq _ _)⟩⟩

/-- Settles O51: the primitives of O50, in an operand. -/
theorem rotateOperand : Obligations.RotateOperand := by
  intro o s
  exact ⟨⟨encodedAs_rlc o, rotatedOperand_of_rotResult .rlc (rlc8_eq _)⟩,
    ⟨encodedAs_rot .rrc o, rotatedOperand_of_rotResult .rrc (rrc8_eq _)⟩,
    ⟨encodedAs_rot .rl o, rotatedOperand_of_rotResult .rl (rl8_eq _ _)⟩,
    ⟨encodedAs_rot .rr o, rotatedOperand_of_rotResult .rr (rr8_eq _ _)⟩⟩

/-- Settles O52: each shift as a number is the `_eq` lemma of its primitive. -/
theorem shiftOperand : Obligations.ShiftOperand := by
  intro o s
  exact ⟨⟨encodedAs_rot .sla o, rotatedOperand_of_rotResult .sla (sla8_eq _)⟩,
    ⟨encodedAs_rot .sra o, rotatedOperand_of_rotResult .sra (sra8_eq _)⟩,
    ⟨encodedAs_rot .swap o, rotatedOperand_of_rotResult .swap (swap8_eq _)⟩,
    ⟨encodedAs_rot .srl o, rotatedOperand_of_rotResult .srl (srl8_eq _)⟩⟩

/-! ### Single bits -/

/-- Settles O53: the row only sets the flags, with the complement of the bit in Z. The operation of the
model has the name `bitTest`. -/
theorem bitTestRow : Obligations.BitTest := by
  intro b o s
  rw [← not_bitOf_eq]
  exact ⟨.of_decodeCB (decodeCB_bit b o), setsFlags_of_exec (exec_instr (.bit b o) s)⟩

/-- An instruction that only writes an operand keeps everything else. -/
theorem writesOperand_of_exec {i : Instr} {s : State} {o : Operand8} {v : Byte}
    (h : exec i s = .next (s.writeOperand o v)) :
    ∃ t, exec i s = .next t ∧ OperandGets o v s t ∧ FlagsKept s t ∧ SPKept s t ∧ PCKept s t ∧
      FaultKept s t :=
  ⟨_, h, .of_eq rfl rfl, s.writeOperand_f o v, s.writeOperand_sp o v, s.writeOperand_pc o v,
    s.writeOperand_fault o v⟩

theorem and_not_bitMask_getLsbD (v : Byte) (b : BitIdx) : ∀ k < 8,
    (v &&& ~~~bitMask b).getLsbD k = (decide (k ≠ b.index) && v.getLsbD k) := by
  intro k hk
  rw [BitVec.getLsbD_and, BitVec.getLsbD_not, bitMask_getLsbD b k hk, Bool.and_comm]
  simp [hk]

theorem or_bitMask_getLsbD (v : Byte) (b : BitIdx) : ∀ k < 8,
    (v ||| bitMask b).getLsbD k = (decide (k = b.index) || v.getLsbD k) := by
  intro k hk
  rw [BitVec.getLsbD_or, bitMask_getLsbD b k hk, Bool.or_comm]

/-- Settles O54: the rows write back the operand with the one bit cleared, or set. -/
theorem bitResetAndSet : Obligations.BitResetAndSet := by
  intro b o s
  obtain ⟨t, ht, hreset, hkeptReset⟩ := writesOperand_of_exec (exec_instr (.res b o) s)
  obtain ⟨u, hu, hset, hkeptSet⟩ := writesOperand_of_exec (exec_instr (.set b o) s)
  exact ⟨⟨.of_decodeCB (decodeCB_res b o),
      t, _, ht, hreset, and_not_bitMask_getLsbD _ b, hkeptReset⟩,
    .of_decodeCB (decodeCB_set b o), u, _, hu, hset, or_bitMask_getLsbD _ b, hkeptSet⟩

end Sys2Proof.Machine
end

section
/-! Control transfer (45_control.md): what a jump, a push of pc and a pop of pc leave, a word read back
from high RAM, and the rows. -/

namespace Sys2Proof.Machine

open Sys2Proof

/-! ### Conditions (R260) -/

theorem condHolds_eq_decide (f : Flags) :
    condHolds f .nz = decide (f.z = false) ∧ condHolds f .z = decide (f.z = true) ∧
    condHolds f .nc = decide (f.c = false) ∧ condHolds f .c = decide (f.c = true) :=
  ⟨Bool.decide_eq_false.symm, Bool.decide_eq_true.symm, Bool.decide_eq_false.symm,
    Bool.decide_eq_true.symm⟩

/-- A condition that holds runs the row without a condition; `exec_not_taken` is the other path. -/
theorem exec_taken (cc : Cond) (nn : Word) (e : Byte) (s : State) (h : condHolds s.f cc = true) :
    exec (Form.jpIf cc nn).instr s = exec (.jp_nn nn) s ∧
    exec (Form.jrIf cc e).instr s = exec (.jr_e e) s ∧
    exec (Form.callIf cc nn).instr s = exec (.call_nn nn) s ∧
    exec (Form.retIf cc).instr s = exec .ret s := by
  refine ⟨?_, ?_, ?_, ?_⟩ <;> rw [exec_instr] <;> exact if_pos h

/-! ### Jumps -/

/-- An instruction that only sets pc keeps everything else. -/
theorem jumps_of_exec {i : Instr} {s : State} {v : Word} (h : exec i s = .next (s.setPC v)) :
    ∃ t, exec i s = .next t ∧ t.pc = v ∧ OnlyPC s t :=
  ⟨_, h, rfl, .of_eq rfl, rfl, rfl, .of_eq rfl, rfl⟩

/-- A jump that is not taken sets pc to what it is. -/
theorem exec_jpIf (cc : Cond) (nn : Word) (s : State) : exec (Form.jpIf cc nn).instr s =
    .next (s.setPC (if condHolds s.f cc = true then nn else s.pc)) := by
  split
  case isTrue h => exact (exec_taken cc nn 0 s h).1
  case isFalse h => exact (exec_not_taken cc nn 0 s (Bool.eq_false_of_not_eq_true h)).1

theorem exec_jrIf (cc : Cond) (e : Byte) (s : State) : exec (Form.jrIf cc e).instr s =
    .next (s.setPC (if condHolds s.f cc = true then relTarget s.pc e else s.pc)) := by
  split
  case isTrue h => exact (exec_taken cc 0 e s h).2.1
  case isFalse h => exact (exec_not_taken cc 0 e s (Bool.eq_false_of_not_eq_true h)).2.1

theorem encodedAs_jpIf (cc : Cond) (nn : Word) :
    EncodedAs (Form.jpIf cc nn).instr
      [BitVec.ofNat 8 (0xC2 + 8 * cc.index), loByte nn, hiByte nn] := by
  cases cc <;> exact .of_encode rfl rfl

theorem encodedAs_jrIf (cc : Cond) (e : Byte) :
    EncodedAs (Form.jrIf cc e).instr [BitVec.ofNat 8 (0x20 + 8 * cc.index), e] := by
  cases cc <;> exact .of_encode rfl rfl

theorem relTarget_toNat (pc : Word) (e : Byte) :
    ((relTarget pc e).toNat : Int) = ((pc.toNat : Int) + e.toInt) % 65536 :=
  add_signExtend16_toNat pc e

/-- Settles O55: each row only sets pc; a condition selects between the target and pc as it is. -/
theorem jumps : Obligations.Jumps := by
  refine ⟨condHolds_eq_decide, fun nn s => ⟨?_, fun cc => ?_⟩, fun s => ?_, fun e s => ⟨?_, fun cc => ?_⟩⟩
  · exact ⟨.of_encode rfl rfl, jumps_of_exec (exec_instr (.jp nn) s)⟩
  · exact ⟨encodedAs_jpIf cc nn, jumps_of_exec (exec_jpIf cc nn s)⟩
  · exact ⟨.of_encode rfl rfl, jumps_of_exec (exec_instr .jpHL s)⟩
  · obtain ⟨t, ht, hpc, hkept⟩ := jumps_of_exec (exec_instr (.jr e) s)
    exact ⟨.of_encode rfl rfl, t, ht, hpc ▸ relTarget_toNat s.pc e, hkept⟩
  · obtain ⟨t, ht, hpc, hkept⟩ := jumps_of_exec (exec_jrIf cc e s)
    refine ⟨encodedAs_jrIf cc e, t, ht, fun hc => ?_, fun hc => ?_, hkept⟩
    · rw [hpc, if_pos hc, relTarget_toNat]
    · rw [hpc, if_neg (by simp [hc])]

/-! ### Calls and restarts -/

/-- An instruction that only pushes pc and jumps keeps everything but SP and the two bytes. -/
theorem calls_of_exec {i : Instr} {s : State} {v : Word}
    (h : exec i s = .next ((s.push16 s.pc).setPC v)) :
    ∃ t, exec i s = .next t ∧ t.pc = v ∧ PushedPC s t :=
  ⟨_, h, rfl, rfl, .of_eq rfl, .of_eq rfl, rfl, rfl⟩

theorem exec_call_pushes (nn : Word) (s : State) :
    ∃ t, exec (.call_nn nn) s = .next t ∧ t.pc = nn ∧ PushedPC s t :=
  calls_of_exec (exec_instr (.call nn) s)

theorem encodedAs_callIf (cc : Cond) (nn : Word) :
    EncodedAs (Form.callIf cc nn).instr
      [BitVec.ofNat 8 (0xC4 + 8 * cc.index), loByte nn, hiByte nn] := by
  cases cc <;> exact .of_encode rfl rfl

theorem encodedAs_rst (k : RstVec) :
    EncodedAs (Form.rst k).instr [BitVec.ofNat 8 (0xC7 + 8 * k.index)] := by
  cases k <;> exact .of_encode rfl rfl

theorem rstTarget_toNat (k : RstVec) : (rstTarget k).toNat = 8 * k.index := by
  cases k <;> rfl

/-- A conditional row answers what its unconditional row does, or the state as it is. -/
theorem conditional_of_exec {i j : Instr} {s : State} {cc : Cond} {P : State → Prop}
    (htaken : condHolds s.f cc = true → exec i s = exec j s)
    (hnot : condHolds s.f cc = false → exec i s = .next s) (hj : ∃ t, exec j s = .next t ∧ P t) :
    ∃ t, exec i s = .next t ∧ (condHolds s.f cc = true → P t) ∧
      (condHolds s.f cc = false → t = s) := by
  cases hc : condHolds s.f cc with
  | true =>
    obtain ⟨t, ht, hP⟩ := hj
    exact ⟨t, (htaken hc).trans ht, fun _ => hP, fun h => by contradiction⟩
  | false => exact ⟨s, hnot hc, fun h => by contradiction, fun _ => rfl⟩

/-- Settles O56: each row pushes pc and jumps, or keeps the state. -/
theorem callsAndRestarts : Obligations.CallsAndRestarts := by
  refine ⟨fun nn s => ⟨⟨.of_encode rfl rfl, exec_call_pushes nn s⟩, fun cc => ?_⟩, fun k s => ?_⟩
  · exact ⟨encodedAs_callIf cc nn, conditional_of_exec (fun h => (exec_taken cc nn 0 s h).2.2.1)
      (fun h => (exec_not_taken cc nn 0 s h).2.2.1) (exec_call_pushes nn s)⟩
  · obtain ⟨t, ht, hpc, hpushed⟩ := calls_of_exec (exec_instr (.rst k) s)
    exact ⟨encodedAs_rst k, t, ht, hpc ▸ rstTarget_toNat k, hpushed⟩

/-! ### Returns -/

/-- An instruction that only pops pc keeps everything but SP. -/
theorem returns_of_exec {i : Instr} {s : State} (h : exec i s = .next (s.drop16.setPC s.top16)) :
    ∃ t, exec i s = .next t ∧ PoppedPC s t :=
  ⟨_, h, joinBytes_toNat _ _, rfl, .of_eq rfl, rfl, .of_eq rfl, rfl⟩

theorem exec_ret_pops (s : State) : ∃ t, exec .ret s = .next t ∧ PoppedPC s t :=
  returns_of_exec (exec_instr .ret s)

theorem encodedAs_retIf (cc : Cond) :
    EncodedAs (Form.retIf cc).instr [BitVec.ofNat 8 (0xC0 + 8 * cc.index)] := by
  cases cc <;> exact .of_encode rfl rfl

/-- Settles O57: each row pops pc, or keeps the state. -/
theorem returns : Obligations.Returns := by
  refine fun s => ⟨⟨.of_encode rfl rfl, exec_ret_pops s⟩, fun cc => ⟨encodedAs_retIf cc, ?_⟩,
    .of_encode rfl rfl, returns_of_exec (exec_instr .reti s)⟩
  exact conditional_of_exec (fun h => (exec_taken cc 0 0 s h).2.2.2)
    (fun h => (exec_not_taken cc 0 0 s h).2.2.2) (exec_ret_pops s)

/-! ### A call and its return -/

/-- A word stored with both bytes in high RAM is read back: the second write does not reach the first
byte (R63, R67). -/
theorem Bus.read16_write16_of_hram (b : Bus) {x : Word} (v : Word) (hlo : 0xFF80 ≤ x.toNat)
    (hhi : x.toNat ≤ 0xFFFD) : (b.write16 x v).read16 x = v := by
  have hsucc : (x + 1).toNat = x.toNat + 1 := by bv_omega
  have hne : x ≠ x + 1 := by bv_omega
  obtain ⟨low, -⟩ := plainStorage.1 b x (loByte v) (.inr (.inl ⟨hlo, by omega⟩))
  obtain ⟨high, others, -⟩ :=
    plainStorage.1 (b.write8 x (loByte v)) (x + 1) (hiByte v) (.inr (.inl ⟨by omega, by omega⟩))
  rw [Bus.read16, Bus.write16, high, others x hne, low, joinBytes_hi_lo]

/-- A pushed pc is popped again where the bus returns the word stored at the new SP. -/
theorem pc_of_pushed_popped {s t u : State} (hpush : PushedPC s t) (hpop : PoppedPC t u)
    (hread : (s.bus.write16 (s.sp - 2) s.pc).read16 (s.sp - 2) = s.pc) : u.pc = s.pc := by
  obtain ⟨hsp, ⟨hbus, -⟩, -⟩ := hpush
  obtain ⟨hpc, -⟩ := hpop
  apply BitVec.eq_of_toNat_eq
  rw [hpc, ← joinBytes_toNat, ← hread, ← hbus, ← hsp]
  rfl

/-- A push and a pop keep all but pc and the two bytes under the old SP. -/
theorem frame_of_pushed_popped {s t u : State} (hpush : PushedPC s t) (hpop : PoppedPC t u) :
    u.sp = s.sp ∧ RegsKept s u ∧ FlagsKept s u ∧ StoredOnlyAt [s.sp - 2, s.sp - 1] s u := by
  obtain ⟨hspPush, ⟨-, honly⟩, hregsPush, hflagsPush, -⟩ := hpush
  obtain ⟨-, hspPop, hregsPop, hflagsPop, ⟨hread, -⟩, -⟩ := hpop
  have hnext : s.sp - 2 + 1 = s.sp - 1 := by bv_omega
  rw [hnext] at honly
  refine ⟨?_, RegsKeptBut.trans hregsPush hregsPop, hflagsPop.trans hflagsPush,
    fun a ha => (hread a).trans (honly a ha)⟩
  rw [hspPop, hspPush, BitVec.sub_add_cancel]

/-- Settles O58: both stack bytes lie in high RAM, so RET pops the pc that CALL pushed. -/
theorem callThenReturn : Obligations.CallThenReturn := by
  intro nn s hsp
  obtain ⟨t, hcall, -, hpush⟩ := exec_call_pushes nn s
  obtain ⟨u, hret, hpop⟩ := exec_ret_pops t
  have hword := s.bus.read16_write16_of_hram (x := s.sp - 2) s.pc (by bv_omega) (by bv_omega)
  exact ⟨t, u, hcall, hret, pc_of_pushed_popped hpush hpop hword, frame_of_pushed_popped hpush hpop⟩

end Sys2Proof.Machine
end

section
/-! The stack instructions (46_stack.md): what a write of a pair with AF leaves, the word on top of the
stack, and the rows. -/

namespace Sys2Proof.Machine

open Sys2Proof

/-! ### Writes of a pair with AF (R23) -/

/-- Only AF does not hold every word: its low byte goes through the mask of F (R21). -/
theorem State.getRp2_setRp2_same (s : State) {p : Rp2} (v : Word) (h : p ≠ .af) :
    (s.setRp2 p v).getRp2 p = v := by
  cases p with
  | bc => exact Regs.bc_setBC s.regs v
  | de => exact Regs.de_setDE s.regs v
  | hl => exact Regs.hl_setHL s.regs v
  | af => contradiction

theorem State.getRp2_setRp2_of_ne (s : State) {p q : Rp2} (v : Word) (h : q ≠ p) :
    (s.setRp2 p v).getRp2 q = s.getRp2 q := by
  cases p with
  | bc => cases q with
    | bc => contradiction
    | de | hl | af => rfl
  | de => cases q with
    | de => contradiction
    | bc | hl | af => rfl
  | hl => cases q with
    | hl => contradiction
    | bc | de | af => rfl
  | af => cases q with
    | af => contradiction
    | bc | de | hl => rfl

/-- A read of a pair does not look at SP. -/
@[simp] theorem State.getRp2_drop16 (s : State) (p : Rp2) : s.drop16.getRp2 p = s.getRp2 p := by
  cases p <;> rfl

/-! ### The word on top of the stack (R11) -/

theorem State.hiByte_top16 (s : State) : hiByte s.top16 = s.read8 (s.sp + 1) :=
  hiByte_joinBytes _ _

theorem State.loByte_top16 (s : State) : loByte s.top16 = s.read8 s.sp :=
  loByte_joinBytes _ _

theorem State.top16_toNat (s : State) :
    s.top16.toNat = 256 * (s.read8 (s.sp + 1)).toNat + (s.read8 s.sp).toNat :=
  joinBytes_toNat _ _

/-! ### The rows -/

theorem encodedAs_push (p : Rp2) :
    EncodedAs (Form.push p).instr [BitVec.ofNat 8 (0xC5 + 16 * p.index)] := by
  cases p <;> exact .of_encode rfl rfl

theorem encodedAs_pop (p : Rp2) :
    EncodedAs (Form.pop p).instr [BitVec.ofNat 8 (0xC1 + 16 * p.index)] := by
  cases p <;> exact .of_encode rfl rfl

/-- A pop of BC, DE or HL puts the top of the stack there and keeps the other pairs and F (R281). -/
theorem popped_pair (s : State) {p : Rp2} (h : p ≠ .af) :
    ((s.drop16.setRp2 p s.top16).getRp2 p).toNat =
      256 * (s.read8 (s.sp + 1)).toNat + (s.read8 s.sp).toNat ∧
    (∀ q, q ≠ p → (s.drop16.setRp2 p s.top16).getRp2 q = s.getRp2 q) ∧
    FlagsKept s (s.drop16.setRp2 p s.top16) := by
  refine ⟨?_, fun q hq => ?_, State.setRp2_f s.top16 h⟩
  · rw [State.getRp2_setRp2_same _ _ h, State.top16_toNat]
  · rw [State.getRp2_setRp2_of_ne _ _ hq, State.getRp2_drop16]

/-- A pop of AF sets A to the high byte and F to the low byte through its mask (R282). -/
theorem popped_af (s : State) :
    (s.drop16.setRp2 .af s.top16).regs = s.regs.set .a (s.read8 (s.sp + 1)) ∧
    (s.drop16.setRp2 .af s.top16).f = Flags.ofByte (s.read8 s.sp) := by
  rw [← s.hiByte_top16, ← s.loByte_top16]
  exact ⟨rfl, rfl⟩

/-- Settles O59: a push moves SP and writes the pair there as a word; a pop moves SP and sets the pair,
where F takes the low byte through its mask. -/
theorem pushAndPop : Obligations.PushAndPop := by
  refine ⟨fun p s => ⟨encodedAs_push p, _, exec_instr (.push p) s, rfl, .of_eq rfl, .of_eq rfl, rfl,
      rfl, rfl⟩,
    fun p s => ⟨encodedAs_pop p, _, exec_instr (.pop p) s, State.setRp2_sp _ p _, State.setRp2_pc _ p _,
      .of_eq (State.setRp2_bus _ p _), State.setRp2_fault _ p _, popped_pair s, ?_⟩⟩
  rintro rfl
  obtain ⟨hregs, hflags⟩ := popped_af s
  refine ⟨?_, ?_, hflags, .of_set hregs⟩
  · exact congrArg Regs.a hregs
  · exact (congrArg Flags.toByte hflags).trans (Flags.toByte_ofByte _)

end Sys2Proof.Machine
end

section
/-! Faults (60_exceptions.md): a Step at STOP, a Step at a faulting byte and at any other, and the runs
that raise none; the instructions without an effect (47_misc.md); and words of every family decoded. -/

namespace Sys2Proof.Machine

open Sys2Proof

/-! ### Words decoded -/

/-- Settles O3: the decoder computes on each word. -/
theorem writtenWordsDecode : Obligations.WrittenWordsDecode := by
  unfold Obligations.WrittenWordsDecode
  and_intros <;> rfl

/-! ### Instructions without an effect -/

/-- Settles O60: the encoder gives the byte, and the meaning of the row is `noEffect`. -/
theorem noOperations : Obligations.NoOperations := fun _ =>
  ⟨⟨.of_encode rfl rfl, rfl⟩, ⟨.of_encode rfl rfl, rfl⟩, ⟨.of_encode rfl rfl, rfl⟩,
    ⟨.of_encode rfl rfl, rfl⟩⟩

/-! ### A Step, by its first byte -/

theorem mem_faultBytes_iff {b : Byte} : b ∈ faultBytes ↔ b = 0x10 ∨ b ∈ unusedBytes := List.mem_cons

/-- A row of one byte is read from that byte alone. -/
theorem byte_of_decodeForm {b0 b1 b2 b : Byte} {f : Form} (h : decodeForm b0 b1 b2 = f)
    (henc : encode f.instr = [b]) : b = b0 := by
  subst h
  by_cases hcb : b0 = 0xCB
  · rw [decodeForm, if_pos hcb, (encode_decodeCB b1).1] at henc
    cases henc
  · rw [encode_decodeForm b0 b1 b2 hcb] at henc
    rcases instrLength_cases b0 with hl | hl | hl <;> rw [hl] at henc <;>
      exact (List.cons.inj henc).1.symm

theorem decodeForm_stop (b1 b2 : Byte) : decodeForm 0x10 b1 b2 = .stop := rfl

theorem run_stop (s : State) :
    Form.run .stop s = .next { s with pc := s.pc - 1, fault := some (.stop (s.pc - 1)) } := rfl

/-- A Step at STOP latches its address and changes nothing else (R303, R305). -/
theorem step_stop {s : State} (hf : s.fault = none) (h : s.read8 s.pc = 0x10) :
    step s = .next { s with fault := some (.stop s.pc) } := by
  have hlen : instrLength 0x10 = 1 := rfl
  have hpc : s.pc + BitVec.ofNat 16 1 - 1 = s.pc := add_sub_cancel_right s.pc 1
  rw [step_eq_run s hf, h, decodeForm_stop, run_stop, hlen, State.setPC_pc, hpc]
  rfl

/-- A Step at a faulting byte sets the latch and changes nothing else (R305). -/
theorem step_faultByte {s : State} (hf : s.fault = none) (h : s.read8 s.pc ∈ faultBytes) :
    ∃ r, step s = .next { s with fault := some r } := by
  rcases mem_faultBytes_iff.mp h with hstop | hunused
  · exact ⟨_, step_stop hf hstop⟩
  · exact ⟨_, step_unused hf hunused⟩

/-- At any other byte the fetch selects neither STOP nor an unused row, so the Step raises no fault. -/
theorem step_keeps_running {s : State} (hf : s.fault = none) (h : s.read8 s.pc ∉ faultBytes) :
    Leaves (fun t => t.fault = none) (step s) := by
  rw [mem_faultBytes_iff, not_or] at h
  obtain ⟨hstop, hunused⟩ := h
  intro t ht
  rw [step_eq_run s hf] at ht
  refine (run_keeps_fault (fun hform => hstop ?_) (fun x hform => hunused ?_) _ t ht).trans hf
  · exact (byte_of_decodeForm hform rfl).symm
  · exact mem_unusedBytes_iff.mpr ⟨x, byte_of_decodeForm_illegal hform⟩

/-- Every Step of a running state ends in a next state (R308). -/
theorem step_next {s : State} (hf : s.fault = none) : ∃ t, step s = .next t := by
  rw [step_eq_exec s hf]
  obtain ⟨t, ht, -⟩ := exec_effect _ _
  exact ⟨t, ht⟩

/-- A Step raises a fault exactly at a faulting byte (R301). -/
theorem step_latches_iff {s t : State} (hf : s.fault = none) (hstep : step s = .next t) :
    t.fault ≠ none ↔ s.read8 s.pc ∈ faultBytes := by
  constructor
  · intro ht
    by_contra hb
    exact ht (step_keeps_running hf hb t hstep)
  · intro hb
    obtain ⟨r, hr⟩ := step_faultByte hf hb
    obtain rfl := Host.Outcome.next.inj (hr.symm.trans hstep)
    exact Option.some_ne_none r

/-- No operation clears the latch: two set it and the others leave it (R32). -/
theorem run_keeps_latched (f : Form) {s : State} (hs : s.fault ≠ none) :
    Leaves (fun t => t.fault ≠ none) (Form.run f s) := by
  by_cases hstop : f = .stop
  · subst hstop
    exact .next (Option.some_ne_none _)
  by_cases hill : ∃ x, f = .illegal x
  · obtain ⟨x, rfl⟩ := hill
    exact .next (Option.some_ne_none _)
  · intro t ht
    have hkeep : t.fault = s.fault := run_keeps_fault hstop (fun x hx => hill ⟨x, hx⟩) s t ht
    rwa [hkeep]

/-! ### The statements about faults -/

/-- Settles O12: an instruction always answers a next state, and the first byte decides the latch. -/
theorem stepAlwaysAnswers : Obligations.StepAlwaysAnswers := by
  intro s hf
  obtain ⟨t, ht⟩ := step_next hf
  exact ⟨t, ht, step_latches_iff hf ht⟩

/-- Settles O13: both faulting rows put pc back, and `step` looks at the latch first. -/
theorem faultPreciseTerminal : Obligations.FaultPreciseTerminal := by
  refine ⟨fun s hf hb => ?_, step_latched, fun i s t h hs => ?_⟩
  · obtain ⟨r, hr⟩ := step_faultByte hf hb
    exact ⟨r, hr, step_latched _ r rfl⟩
  · rw [exec_eq_run] at h
    exact run_keeps_latched i.form hs t h

/-- Only the byte 0x10 latches `Stop`, and with its own address: an unused byte latches another fault,
and no other byte latches any. -/
theorem stop_of_step_latches {s t : State} {a : Word} (hf : s.fault = none) (hstep : step s = .next t)
    (ht : t.fault = some (.stop a)) : s.read8 s.pc = 0x10 ∧ s.pc = a := by
  have hb : s.read8 s.pc ∈ faultBytes :=
    (step_latches_iff hf hstep).mp (ht ▸ Option.some_ne_none _)
  rcases mem_faultBytes_iff.mp hb with hstop | hunused
  · obtain rfl := Host.Outcome.next.inj ((step_stop hf hstop).symm.trans hstep)
    exact ⟨hstop, Fault.stop.inj (Option.some.inj ht)⟩
  · obtain rfl := Host.Outcome.next.inj ((step_unused hf hunused).symm.trans hstep)
    cases ht

/-- Settles O15, by the Step at 0x10 and what a latched `Stop` says of the Step that set it. -/
theorem stopFault : Obligations.StopFault := by
  refine ⟨.of_encode rfl rfl, run_stop, fun s a hf => ⟨?_, ?_⟩, fun s hf => step_stop hf⟩
  · rintro ⟨t, hstep, ht⟩
    exact stop_of_step_latches hf hstep ht
  · rintro ⟨hb, rfl⟩
    exact ⟨_, step_stop hf hb, rfl⟩

/-- Settles O16: a latched state is reached by a last Step, which the first byte decides. -/
theorem safeRunIffNoFaultByte : Obligations.SafeRunIffNoFaultByte := by
  intro s hs
  constructor
  · intro hsafe t hreach hf hb
    obtain ⟨r, hr⟩ := step_faultByte hf hb
    cases hsafe _ (hreach.snoc hr)
  · intro hbytes t hreach
    rcases hreach.last with rfl | ⟨u, hu, hstep⟩
    · exact hs
    · have hf := fault_eq_none_of_step hstep
      exact step_keeps_running hf (hbytes u hu hf) t hstep

end Sys2Proof.Machine
end
